-- ==== Sys2Proof/Word.lean ====
section
/-! DEFINITION. The machine's data words: bytes, 16-bit words and the five flags. -/

namespace Sys2Proof

/-- An 8-bit value: a register, a memory byte, a port number (10_state.md R7, R22, R23). -/
abbrev Byte := BitVec 8

/-- A 16-bit value: a register pair, SP, PC, an address (10_state.md R9, R11, R12, R22). -/
abbrev Word := BitVec 16

/-- The five 1-bit flags, in the order of the source's column "SZACPCY" (10_state.md R13). -/
structure Flags where
  /-- sign: bit 7 of the result (R14) -/
  s : Bool
  /-- zero (R14) -/
  z : Bool
  /-- auxiliary carry (R16) -/
  ac : Bool
  /-- parity: set when even (R15) -/
  p : Bool
  /-- carry (R15) -/
  cy : Bool
deriving DecidableEq, Repr

end Sys2Proof
end

