-- ==== Sys2Proof/Config.lean ====
section
/-! DEFINITION. What the spec fixes for the machine, and the arguments it leaves open
(00_scope.md section 4; 92_eei_decisions.md "Parameters left OPEN"). -/

namespace Sys2Proof

/-- `AC_SUB`: what AC means after a subtraction (10_state.md R19, decision D9). -/
inductive AcSub where
  /-- AC = 1 when there is no borrow from bit 4: the spec's default -/
  | noBorrow
  /-- AC = 1 when there is a borrow from bit 4 -/
  | borrow
deriving DecidableEq, Repr

/-- `UNDEF_OPCODE`: what the 12 unlisted opcode bytes do (30_encoding.md R52, decision D7). -/
inductive UndefOpcode where
  /-- fetching one is a fault of the model: the spec's default -/
  | fault
  /-- they execute as the Intel 8080's aliases -/
  | alias8080
deriving DecidableEq, Repr

/-- `PSW_LAYOUT`: the bit of the flag byte F that each flag has, and what the other bits read as
(10_state.md R20, decision D11). -/
structure PswLayout where
  s : Fin 8
  z : Fin 8
  ac : Fin 8
  p : Fin 8
  cy : Fin 8
  /-- the value that the three bits without a flag read as; its other bits are not used -/
  fixed : Byte
deriving DecidableEq, Repr

/-- No two flags share a bit: the layouts that are an "assignment of S, Z, AC, P, CY and three
constants to the 8 bits of F" (92_eei_decisions.md). -/
def PswLayout.wf (y : PswLayout) : Bool :=
  decide [y.s, y.z, y.ac, y.p, y.cy].Nodup

/-- The default layout S Z 0 AC 0 P 1 CY, bit 7 to bit 0 (R20). -/
def PswLayout.standard : PswLayout :=
  { s := 7, z := 6, ac := 4, p := 2, cy := 0, fixed := 0x02 }

/-- One row of a `DAA_FN` that is given by cases: the inputs A, AC, CY and what DAA answers for
them, the new A and the five flags (41_arithmetic.md R83). -/
structure DaaRow where
  aIn : Byte
  acIn : Bool
  cyIn : Bool
  aOut : Byte
  flagsOut : Flags
deriving DecidableEq, Repr

/-- The open arguments that act on single instructions. `daaTable` lists the inputs on which
`DAA_FN` differs from its default R85; DAA has 1,024 inputs, so every `DAA_FN` is such a list. -/
structure Params where
  acSub : AcSub
  undefOpcode : UndefOpcode
  pswLayout : PswLayout
  daaTable : List DaaRow
deriving DecidableEq, Repr

/-- Every open argument at the spec's default (92_eei_decisions.md). -/
def Params.standard : Params :=
  { acSub := .noBorrow, undefOpcode := .fault, pswLayout := PswLayout.standard, daaTable := [] }

/-- `REG_INIT`: what the registers and flags without a reset value hold at the start of a run
(70_reset_and_hazards.md R160). -/
structure RegInit where
  a : Byte
  b : Byte
  c : Byte
  d : Byte
  e : Byte
  h : Byte
  l : Byte
  sp : Word
  flags : Flags
deriving DecidableEq, Repr

/-- DESIGN CHOICE, unsafe (log entry 3): the `REG_INIT` of `State.reset`. The spec gives no value;
statements about a start of a run quantify over every `RegInit`. -/
def RegInit.zero : RegInit :=
  { a := 0, b := 0, c := 0, d := 0, e := 0, h := 0, l := 0, sp := 0,
    flags := { s := false, z := false, ac := false, p := false, cy := false } }

/-- `RESET_PC` (R159, the spec's decision D13). -/
def Config.resetPc : Word := 0x0000

/-- `IN_VALUE`: what every port reads as (46_io.md R145). -/
def Config.inValue : Byte := 0xFF

/-- DESIGN CHOICE, unsafe (log entry 2): what an address that memory does not list reads as. The
spec's `MEM_INIT` is an argument of `State.resetWith`, and every content of the 65,536 bytes is
some listing; only `State.reset` lists nothing. -/
def Config.unlistedByte : Byte := 0x00

end Sys2Proof
end

