-- ==== Sys2Proof/Machine/State.lean ====
section
/-! DEFINITION. The machine's state as plain data, the reasons a step can stop, and reset
(spec/10_state.md, spec/70_reset_and_hazards.md). -/

namespace Sys2Proof.Machine

/-- The 65,536 bytes of memory (10_state.md R22, 20_memory.md R36): the pairs (address, byte) of the
bytes that differ from `Config.unlistedByte`, addresses strictly rising below 65,536. -/
abbrev Memory := List Host.Cell

/-- The complete architectural state (10_state.md), and the open arguments of the run. -/
structure State where
  /-- A, the accumulator (R7) -/
  a : Byte
  /-- B, high byte of BC (R7, R9) -/
  b : Byte
  /-- C, low byte of BC (R7, R9) -/
  c : Byte
  /-- D, high byte of DE (R7, R9) -/
  d : Byte
  /-- E, low byte of DE (R7, R9) -/
  e : Byte
  /-- H, high byte of HL (R7, R9) -/
  h : Byte
  /-- L, low byte of HL (R7, R9) -/
  l : Byte
  /-- SP (R11) -/
  sp : Word
  /-- PC: between instructions, the address of the next opcode byte (R12) -/
  pc : Word
  /-- S, Z, AC, P, CY (R13) -/
  flags : Flags
  /-- INTE, written by EI and DI, read by nothing (R21) -/
  inte : Bool
  /-- the stopped state of HLT (R24) -/
  halted : Bool
  /-- memory (R22) -/
  mem : Memory
  /-- the MODEL's own field: the spec's open arguments (00_scope.md section 4; log entry 9) -/
  params : Params
deriving DecidableEq, Repr

/-- Why a step stops. The hardware raises nothing (60_exceptions.md R146): this is the model's own
report. -/
inductive Fault where
  /-- `UndefinedOpcode(pc, op)` (30_encoding.md R52): raised by `step` when the opcode byte `op` at
  `pc` is one of the 12 unlisted values and `UNDEF_OPCODE = FAULT`, with no state change. Safe: a
  simulator that goes on here does more than the model, and no claim rests on what it does. -/
  | undefinedOpcode (pc : Word) (op : Byte)
deriving DecidableEq, Repr

/-- Why an instruction has no meaning. -/
inductive Refusal where
  /-- An arm of `exec` without a meaning yet, by its mnemonic. Safe. No arm of this model answers
  it. -/
  | notModelled (mnemonic : String)
deriving DecidableEq, Repr

/-- The start of a run (R159 to R161): PC, INTE and `halted` as the spec decides, the rest whatever
the arguments `REG_INIT` and `MEM_INIT` of the run say. -/
def State.resetWith (params : Params) (regs : RegInit) (mem : Memory) : State :=
  { a := regs.a, b := regs.b, c := regs.c, d := regs.d, e := regs.e, h := regs.h, l := regs.l,
    sp := regs.sp, pc := Config.resetPc, flags := regs.flags, inte := false, halted := false,
    mem := mem, params := params }

/-- The machine right after reset with every open argument at the spec's default. DESIGN CHOICE,
unsafe (log entries 2 and 3): where the spec gives no default, registers are zero and memory lists
nothing. -/
def State.reset : State :=
  State.resetWith Params.standard RegInit.zero []

end Sys2Proof.Machine
end

