-- ==== Sys2Proof/Syntax.lean ====
section
/-! DEFINITION. The instructions: one constructor for each of the 78 mnemonics of
spec/opcode_table.json, with its operand fields (00_scope.md R3, 30_encoding.md R43 to R48). A row
of the table is a constructor at one value of its operands. -/

namespace Sys2Proof

/-- The operand of a 3-bit code: a register, or `m`, the byte HL points to (10_state.md R8). -/
inductive Reg8 where
  | b | c | d | e | h | l | m | a
deriving DecidableEq, Repr

/-- The pair operand of LXI, INX, DCX, DAD (10_state.md R10, second column). -/
inductive Rp where
  | bc | de | hl | sp
deriving DecidableEq, Repr

/-- The pair operand of PUSH and POP (R10, third column). -/
inductive StackRp where
  | bc | de | hl | psw
deriving DecidableEq, Repr

/-- The pair operand of LDAX and STAX: BC or DE only (R10, fourth column; 90_conflicts.md C4). -/
inductive IndRp where
  | bc | de
deriving DecidableEq, Repr

/-- The eight conditions of Jcond, Ccond, Rcond (43_branch.md R102). -/
inductive Cond where
  | nz | z | nc | c | po | pe | p | m
deriving DecidableEq, Repr

/-- The instructions, in the source's order (R3). -/
inductive Instr where
  -- data transfer
  | mov (dst src : Reg8)
  | mvi (dst : Reg8) (d8 : Byte)
  | lxi (rp : Rp) (d16 : Word)
  | lda (a16 : Word)
  | sta (a16 : Word)
  | lhld (a16 : Word)
  | shld (a16 : Word)
  | ldax (rp : IndRp)
  | stax (rp : IndRp)
  | xchg
  | xthl
  | sphl
  -- arithmetic
  | add (src : Reg8)
  | adc (src : Reg8)
  | adi (d8 : Byte)
  | aci (d8 : Byte)
  | sub (src : Reg8)
  | sbb (src : Reg8)
  | sui (d8 : Byte)
  | sbi (d8 : Byte)
  | inr (r : Reg8)
  | dcr (r : Reg8)
  | inx (rp : Rp)
  | dcx (rp : Rp)
  | dad (rp : Rp)
  | daa
  -- logical
  | ana (src : Reg8)
  | xra (src : Reg8)
  | ora (src : Reg8)
  | cmp (src : Reg8)
  | ani (d8 : Byte)
  | xri (d8 : Byte)
  | ori (d8 : Byte)
  | cpi (d8 : Byte)
  | rlc
  | rrc
  | ral
  | rar
  | cma
  | stc
  | cmc
  -- branch
  | jmp (a16 : Word)
  | jnz (a16 : Word)
  | jz (a16 : Word)
  | jnc (a16 : Word)
  | jc (a16 : Word)
  | jpo (a16 : Word)
  | jpe (a16 : Word)
  | jp (a16 : Word)
  | jm (a16 : Word)
  | call (a16 : Word)
  | cnz (a16 : Word)
  | cz (a16 : Word)
  | cnc (a16 : Word)
  | cc (a16 : Word)
  | cpo (a16 : Word)
  | cpe (a16 : Word)
  | cp (a16 : Word)
  | cm (a16 : Word)
  | ret
  | rnz
  | rz
  | rnc
  | rc
  | rpo
  | rpe
  | rp
  | rm
  | rst (n : BitVec 3)
  | pchl
  -- stack
  | push (rp : StackRp)
  | pop (rp : StackRp)
  -- control
  | nop
  | hlt
  | ei
  | di
  -- input/output
  | outPort (port : Byte)
  | inPort (port : Byte)
deriving DecidableEq, Repr

end Sys2Proof
end

