-- ==== Sys2Proof/Machine/Flags.lean ====
section
/-! DEFINITION. The flag computations (10_state.md section 4), the 8-bit additions and subtractions
with their flag outputs, the decimal adjust, the flag byte and the conditions. -/

namespace Sys2Proof.Machine

/-- `parity_even`: an even number of 1 bits among all eight (R15, decision D26). -/
def parityEven (v : Byte) : Bool :=
  (List.range 8).countP (fun i => v.getLsbD i) % 2 == 0

/-- `set_SZP` (R17). -/
def setSZP (f : Flags) (v : Byte) : Flags :=
  { f with s := v.getLsbD 7, z := v == 0x00, p := parityEven v }

/-- What an 8-bit addition or subtraction answers: `(res, cy, ac)` (R18, R19). -/
structure AluOut where
  res : Byte
  cy : Bool
  ac : Bool
deriving DecidableEq, Repr

/-- `add8` (R18). The carry readings are the spec's decisions D8 and D12. -/
def add8 (a b : Byte) (cin : Bool) : AluOut :=
  { res := BitVec.ofNat 8 (a.toNat + b.toNat + cin.toNat)
    cy := decide (a.toNat + b.toNat + cin.toNat > 255)
    ac := decide ((a &&& 0x0F#8).toNat + (b &&& 0x0F#8).toNat + cin.toNat > 0x0F) }

/-- AC after a subtraction, by `AC_SUB` (R19, decision D9). -/
def subAC (conv : AcSub) (a b : Byte) (bin : Bool) : Bool :=
  match conv with
  | .noBorrow => decide ((a &&& 0x0F#8).toNat + (~~~b &&& 0x0F#8).toNat + (1 - bin.toNat) > 0x0F)
  | .borrow =>
    decide (((a &&& 0x0F#8).toNat : Int) - ((b &&& 0x0F#8).toNat : Int) - (bin.toNat : Int) < 0)

/-- `sub8` (R19). `cy` is the borrow of the whole unsigned subtraction (decisions D12, D20). -/
def sub8 (conv : AcSub) (a b : Byte) (bin : Bool) : AluOut :=
  { res := BitVec.ofInt 8 ((a.toNat : Int) - (b.toNat : Int) - (bin.toNat : Int))
    cy := decide ((a.toNat : Int) - (b.toNat : Int) - (bin.toNat : Int) < 0)
    ac := subAC conv a b bin }

/-- All five flags from a result, column "*****" (R69). -/
def arithFlags (f : Flags) (r : AluOut) : Flags :=
  { setSZP f r.res with ac := r.ac, cy := r.cy }

/-- S, Z, AC, P from a result and CY kept, column "****-" (R78, R79). -/
def stepFlags (f : Flags) (r : AluOut) : Flags :=
  { setSZP f r.res with ac := r.ac }

/-- S, Z, P from a result, AC as the operation says, CY cleared: columns "**1*0" and "**0*0"
(42_logical.md R86). -/
def logicFlags (f : Flags) (res : Byte) (ac : Bool) : Flags :=
  { setSZP f res with ac := ac, cy := false }

/-- CY alone, columns "----*" and "----1". -/
def carryFlag (f : Flags) (cy : Bool) : Flags :=
  { f with cy := cy }

/-- The default `DAA_FN` (41_arithmetic.md R85, decision D10). -/
def daaStandard (a : Byte) (acIn cyIn : Bool) : Byte × Flags :=
  let lsb := (a &&& 0x0F#8).toNat
  let msb := (a >>> 4).toNat
  let low := decide (lsb > 9) || acIn
  let high := decide (msb > 9) || cyIn || (decide (msb ≥ 9) && decide (lsb > 9))
  let corr : Byte := (if low then 0x06 else 0x00) + (if high then 0x60 else 0x00)
  let r := add8 a corr false
  (r.res, { s := r.res.getLsbD 7, z := r.res == 0x00, ac := r.ac, p := parityEven r.res,
            cy := cyIn || high })

/-- `DAA_FN` (R83): the row of the run's table for these inputs, else the default. -/
def daaFn (table : List DaaRow) (a : Byte) (acIn cyIn : Bool) : Byte × Flags :=
  match table.find? (fun row => row.aIn == a && row.acIn == acIn && row.cyIn == cyIn) with
  | some row => (row.aOut, row.flagsOut)
  | none => daaStandard a acIn cyIn

/-- Bit `i` of the flag byte F under a layout (R20). -/
def flagBit (y : PswLayout) (f : Flags) (i : Fin 8) : Bool :=
  if i = y.s then f.s
  else if i = y.z then f.z
  else if i = y.ac then f.ac
  else if i = y.p then f.p
  else if i = y.cy then f.cy
  else y.fixed.getLsbD i.val

/-- The flag byte F, a view of the five flags (R20). -/
def packFlags (y : PswLayout) (f : Flags) : Byte :=
  BitVec.ofBool (flagBit y f 7) ++ BitVec.ofBool (flagBit y f 6) ++
  BitVec.ofBool (flagBit y f 5) ++ BitVec.ofBool (flagBit y f 4) ++
  BitVec.ofBool (flagBit y f 3) ++ BitVec.ofBool (flagBit y f 2) ++
  BitVec.ofBool (flagBit y f 1) ++ BitVec.ofBool (flagBit y f 0)

/-- Writing F: each flag from its bit, the other bits ignored (R20). -/
def unpackFlags (y : PswLayout) (v : Byte) : Flags :=
  { s := v.getLsbD y.s.val, z := v.getLsbD y.z.val, ac := v.getLsbD y.ac.val,
    p := v.getLsbD y.p.val, cy := v.getLsbD y.cy.val }

/-- `cond(CCC)` (43_branch.md R102). -/
def condHolds (cond : Cond) (f : Flags) : Bool :=
  match cond with
  | .nz => !f.z
  | .z => f.z
  | .nc => !f.cy
  | .c => f.cy
  | .po => !f.p
  | .pe => f.p
  | .p => !f.s
  | .m => f.s

end Sys2Proof.Machine
end

