-- ==== Sys2Proof/Machine/Ops.lean ====
section
/-! DEFINITION. The named operations over memory, registers, the stack and PC (20_memory.md,
44_stack.md, 00_scope.md section 5.3). The hardware takes no exception and returns from none
(60_exceptions.md R146, R151, R152), so no such operation stands here. -/

namespace Sys2Proof.Machine

/-! ## Memory as data -/

/-- The byte at address `n`. -/
def Memory.get (m : Memory) (n : Nat) : Byte :=
  match m with
  | [] => Config.unlistedByte
  | (k, v) :: rest => if k = n then v else Memory.get rest n

/-- `m` without an entry for address `n`. -/
def Memory.erase (m : Memory) (n : Nat) : Memory :=
  match m with
  | [] => []
  | (k, v) :: rest => if k = n then Memory.erase rest n else (k, v) :: Memory.erase rest n

/-- `m` with the entry `(n, v)` before the first address above `n`. -/
def Memory.insert (m : Memory) (n : Nat) (v : Byte) : Memory :=
  match m with
  | [] => [(n, v)]
  | (k, w) :: rest => if n < k then (n, v) :: (k, w) :: rest else (k, w) :: Memory.insert rest n v

/-- `m` with the byte at address `n` replaced by `v`, in canonical form. -/
def Memory.put (m : Memory) (n : Nat) (v : Byte) : Memory :=
  if v = Config.unlistedByte then Memory.erase m n else Memory.insert (Memory.erase m n) n v

/-- The canonical form from address `lo` on. -/
def Memory.wfFrom (lo : Nat) (m : Memory) : Bool :=
  match m with
  | [] => true
  | (k, v) :: rest =>
    decide (lo ≤ k) && decide (k < 65536) && (v != Config.unlistedByte) && Memory.wfFrom (k + 1) rest

/-- The canonical form: addresses strictly rising, below 65,536, no entry equal to what an unlisted
address reads as. Equal memories in this form are equal data. -/
def Memory.wf (m : Memory) : Bool := Memory.wfFrom 0 m

/-! ## Bytes of a word (R9, R28) -/

/-- Bits 15:8. -/
def hiByte (v : Word) : Byte := v.extractLsb' 8 8

/-- Bits 7:0. -/
def loByte (v : Word) : Byte := v.extractLsb' 0 8

/-- `(hi << 8) | lo`. -/
def mkWord (hi lo : Byte) : Word := hi ++ lo

/-- A byte whose bit 0 is `b`, its other bits 0: a flag in a shift. -/
def bitByte (b : Bool) : Byte := if b then 0x01 else 0x00

/-! ## Updates of one field -/

def State.setA (s : State) (v : Byte) : State := { s with a := v }
def State.setB (s : State) (v : Byte) : State := { s with b := v }
def State.setC (s : State) (v : Byte) : State := { s with c := v }
def State.setD (s : State) (v : Byte) : State := { s with d := v }
def State.setE (s : State) (v : Byte) : State := { s with e := v }
def State.setH (s : State) (v : Byte) : State := { s with h := v }
def State.setL (s : State) (v : Byte) : State := { s with l := v }
def State.setSp (s : State) (v : Word) : State := { s with sp := v }
def State.setPc (s : State) (v : Word) : State := { s with pc := v }
def State.setFlags (s : State) (f : Flags) : State := { s with flags := f }
def State.setInte (s : State) (b : Bool) : State := { s with inte := b }
def State.setHalted (s : State) (b : Bool) : State := { s with halted := b }
def State.setMem (s : State) (m : Memory) : State := { s with mem := m }

/-! ## Register pairs (R9) -/

def State.bc (s : State) : Word := mkWord s.b s.c
def State.de (s : State) : Word := mkWord s.d s.e
def State.hl (s : State) : Word := mkWord s.h s.l
def State.setBC (s : State) (v : Word) : State := (s.setB (hiByte v)).setC (loByte v)
def State.setDE (s : State) (v : Word) : State := (s.setD (hiByte v)).setE (loByte v)
def State.setHL (s : State) (v : Word) : State := (s.setH (hiByte v)).setL (loByte v)

/-! ## Memory accesses (R31 to R33): every address is 16 bits wide and wraps -/

/-- `MemRead(addr, 1)`. -/
def State.readByte (s : State) (addr : Word) : Byte := Memory.get s.mem addr.toNat

/-- `MemWrite(addr, 1, v)`. -/
def State.writeByte (s : State) (addr : Word) (v : Byte) : State :=
  s.setMem (Memory.put s.mem addr.toNat v)

/-- `MemRead(addr, 2)`: the low byte at `addr`, the high byte at `addr + 1 mod 65536`. -/
def State.readWord (s : State) (addr : Word) : Word :=
  mkWord (s.readByte (addr + 1)) (s.readByte addr)

/-- `MemWrite(addr, 2, v)`, low byte first, as SHLD and XTHL write (R32). -/
def State.writeWord (s : State) (addr : Word) (v : Word) : State :=
  (s.writeByte addr (loByte v)).writeByte (addr + 1) (hiByte v)

/-! ## Stack (44_stack.md) -/

/-- `push16` (R134): SP down by 2, then the high byte, then the low byte. -/
def State.push16 (s : State) (v : Word) : State :=
  let t := s.setSp (s.sp - 2)
  (t.writeByte (t.sp + 1) (hiByte v)).writeByte t.sp (loByte v)

/-- The value `pop16` answers (R135). -/
def State.topOfStack (s : State) : Word := s.readWord s.sp

/-- What `pop16` does to SP (R135); the bytes stay in memory. -/
def State.dropTop (s : State) : State := s.setSp (s.sp + 2)

/-! ## PC (00_scope.md section 5.3; section 5.4, R5) -/

/-- `npc`, the address after an instruction of `len` bytes at PC. -/
def State.npc (s : State) (len : Nat) : Word := s.pc + BitVec.ofNat 16 len

/-- `pc <- npc`. -/
def State.advance (s : State) (len : Nat) : State := s.setPc (s.npc len)

/-- `push16(npc); pc <- target` (43_branch.md R112, R130). -/
def State.callTo (s : State) (len : Nat) (target : Word) : State :=
  (s.push16 (s.npc len)).setPc target

/-- `pc <- pop16()` (R121). -/
def State.returnFrom (s : State) : State := s.dropTop.setPc s.topOfStack

/-- Jcond (R104 to R111): 3 bytes, taken or not. -/
def State.jumpIf (s : State) (cond : Cond) (target : Word) : State :=
  if condHolds cond s.flags then s.setPc target else s.advance 3

/-- Ccond (R113 to R120): 3 bytes, taken or not. -/
def State.callIf (s : State) (cond : Cond) (target : Word) : State :=
  if condHolds cond s.flags then s.callTo 3 target else s.advance 3

/-- Rcond (R122 to R129): 1 byte, taken or not. -/
def State.returnIf (s : State) (cond : Cond) : State :=
  if condHolds cond s.flags then s.returnFrom else s.advance 1

/-! ## Ports (46_io.md) -/

/-- `port[p]`: 0xFF whatever the port and whatever was output (R145, decision D18). -/
def portRead (_port : Byte) : Byte := Config.inValue

/-- What OUT does to the machine beyond PC: nothing, no port state exists (R144, 90_conflicts.md
C3). -/
def State.portWrite (s : State) (_port _value : Byte) : State := s

end Sys2Proof.Machine
end

