-- ==== Sys2Proof/Machine/Operands.lean ====
section
/-! DEFINITION. The operand forms: registers and M, register pairs, stack pairs with PSW, pairs that
address memory (10_state.md R8 to R10, R20). -/

namespace Sys2Proof.Machine

/-- `R[c]`: a register, or the byte at HL for M (R8). -/
def State.readReg8 (s : State) (r : Reg8) : Byte :=
  match r with
  | .b => s.b
  | .c => s.c
  | .d => s.d
  | .e => s.e
  | .h => s.h
  | .l => s.l
  | .m => s.readByte s.hl
  | .a => s.a

/-- `R[c] <- v`: a register, or the byte at HL for M, HL taken at the time of the access (R8). -/
def State.writeReg8 (s : State) (r : Reg8) (v : Byte) : State :=
  match r with
  | .b => s.setB v
  | .c => s.setC v
  | .d => s.setD v
  | .e => s.setE v
  | .h => s.setH v
  | .l => s.setL v
  | .m => s.writeByte s.hl v
  | .a => s.setA v

/-- `RP[c]` (R10). -/
def State.readRp (s : State) (rp : Rp) : Word :=
  match rp with
  | .bc => s.bc
  | .de => s.de
  | .hl => s.hl
  | .sp => s.sp

/-- `RP[c] <- v` (R9, R10). -/
def State.writeRp (s : State) (rp : Rp) (v : Word) : State :=
  match rp with
  | .bc => s.setBC v
  | .de => s.setDE v
  | .hl => s.setHL v
  | .sp => s.setSp v

/-- `PSW = (A << 8) | F` (R20). -/
def State.psw (s : State) : Word := mkWord s.a (packFlags s.params.pswLayout s.flags)

/-- Writing PSW: A and the five flags (R20). -/
def State.setPsw (s : State) (v : Word) : State :=
  (s.setA (hiByte v)).setFlags (unpackFlags s.params.pswLayout (loByte v))

/-- The value PUSH pushes (44_stack.md R136). -/
def State.readStackRp (s : State) (rp : StackRp) : Word :=
  match rp with
  | .bc => s.bc
  | .de => s.de
  | .hl => s.hl
  | .psw => s.psw

/-- What POP writes (44_stack.md R137). -/
def State.writeStackRp (s : State) (rp : StackRp) (v : Word) : State :=
  match rp with
  | .bc => s.setBC v
  | .de => s.setDE v
  | .hl => s.setHL v
  | .psw => s.setPsw v

/-- The address of LDAX and STAX (40_data_transfer.md R63, R64). -/
def State.readIndRp (s : State) (rp : IndRp) : Word :=
  match rp with
  | .bc => s.bc
  | .de => s.de

/-- `A <- res` and all five flags (R69). -/
def State.setArith (s : State) (r : AluOut) : State :=
  (s.setA r.res).setFlags (arithFlags s.flags r)

/-- The flags of a subtraction and A kept (42_logical.md R90). -/
def State.setCompare (s : State) (r : AluOut) : State :=
  s.setFlags (arithFlags s.flags r)

/-- `A <- res`, S, Z, P from it, AC as given, CY cleared (42_logical.md R86). -/
def State.setLogic (s : State) (res : Byte) (ac : Bool) : State :=
  (s.setA res).setFlags (logicFlags s.flags res ac)

/-- `A <- res; CY <- cy`, the other flags kept (R95 to R98). -/
def State.setRotate (s : State) (res : Byte) (cy : Bool) : State :=
  (s.setA res).setFlags (carryFlag s.flags cy)

/-- `R[r] <- res` and S, Z, AC, P, with CY kept (R78, R79). -/
def State.setCount (s : State) (r : Reg8) (out : AluOut) : State :=
  (s.writeReg8 r out.res).setFlags (stepFlags s.flags out)

end Sys2Proof.Machine
end

