-- ==== Sys2Proof/Machine/Arithmetic.lean ====
section
/-! DEFINITION. The meanings of the arithmetic instructions (spec/41_arithmetic.md).
Each is called with PC at its opcode byte and ends with `pc <- npc` unless it branches (00_scope.md
R5); none stops. -/

namespace Sys2Proof.Machine

/-- ADD (R70). -/
def execAdd (src : Reg8) (s : State) : Host.Outcome State Fault Refusal :=
  .next ((s.setArith (add8 s.a (s.readReg8 src) false)).advance 1)

/-- ADC (R71). -/
def execAdc (src : Reg8) (s : State) : Host.Outcome State Fault Refusal :=
  .next ((s.setArith (add8 s.a (s.readReg8 src) s.flags.cy)).advance 1)

/-- ADI (R72). -/
def execAdi (d8 : Byte) (s : State) : Host.Outcome State Fault Refusal :=
  .next ((s.setArith (add8 s.a d8 false)).advance 2)

/-- ACI (R73). -/
def execAci (d8 : Byte) (s : State) : Host.Outcome State Fault Refusal :=
  .next ((s.setArith (add8 s.a d8 s.flags.cy)).advance 2)

/-- SUB (R74). -/
def execSub (src : Reg8) (s : State) : Host.Outcome State Fault Refusal :=
  .next ((s.setArith (sub8 s.params.acSub s.a (s.readReg8 src) false)).advance 1)

/-- SBB (R75). -/
def execSbb (src : Reg8) (s : State) : Host.Outcome State Fault Refusal :=
  .next ((s.setArith (sub8 s.params.acSub s.a (s.readReg8 src) s.flags.cy)).advance 1)

/-- SUI (R76). -/
def execSui (d8 : Byte) (s : State) : Host.Outcome State Fault Refusal :=
  .next ((s.setArith (sub8 s.params.acSub s.a d8 false)).advance 2)

/-- SBI (R77). -/
def execSbi (d8 : Byte) (s : State) : Host.Outcome State Fault Refusal :=
  .next ((s.setArith (sub8 s.params.acSub s.a d8 s.flags.cy)).advance 2)

/-- INR (R78). -/
def execInr (r : Reg8) (s : State) : Host.Outcome State Fault Refusal :=
  .next ((s.setCount r (add8 (s.readReg8 r) 0x01 false)).advance 1)

/-- DCR (R79). -/
def execDcr (r : Reg8) (s : State) : Host.Outcome State Fault Refusal :=
  .next ((s.setCount r (sub8 s.params.acSub (s.readReg8 r) 0x01 false)).advance 1)

/-- INX (R80). -/
def execInx (rp : Rp) (s : State) : Host.Outcome State Fault Refusal :=
  .next ((s.writeRp rp (s.readRp rp + 1)).advance 1)

/-- DCX (R81). -/
def execDcx (rp : Rp) (s : State) : Host.Outcome State Fault Refusal :=
  .next ((s.writeRp rp (s.readRp rp - 1)).advance 1)

/-- DAD: CY is the carry out of bit 15 (decision D12) (R82). -/
def execDad (rp : Rp) (s : State) : Host.Outcome State Fault Refusal :=
  .next (((s.setHL (BitVec.ofNat 16 (s.hl.toNat + (s.readRp rp).toNat))).setFlags
    (carryFlag s.flags (decide (s.hl.toNat + (s.readRp rp).toNat > 65535)))).advance 1)

/-- DAA: A and all five flags by `DAA_FN` (R83). -/
def execDaa (s : State) : Host.Outcome State Fault Refusal :=
  .next (((s.setA (daaFn s.params.daaTable s.a s.flags.ac s.flags.cy).1).setFlags
    (daaFn s.params.daaTable s.a s.flags.ac s.flags.cy).2).advance 1)

end Sys2Proof.Machine
end

