-- ==== Sys2Proof/Machine/Branch.lean ====
section
/-! DEFINITION. The meanings of the branch instructions (spec/43_branch.md): none writes a flag (R132).
Each is called with PC at its opcode byte and ends with `pc <- npc` unless it branches (00_scope.md
R5); none stops. -/

namespace Sys2Proof.Machine

/-- JMP (R103). -/
def execJmp (a16 : Word) (s : State) : Host.Outcome State Fault Refusal :=
  .next (s.setPc a16)

/-- JNZ (R104). -/
def execJnz (a16 : Word) (s : State) : Host.Outcome State Fault Refusal :=
  .next (s.jumpIf .nz a16)

/-- JZ (R105). -/
def execJz (a16 : Word) (s : State) : Host.Outcome State Fault Refusal :=
  .next (s.jumpIf .z a16)

/-- JNC (R106). -/
def execJnc (a16 : Word) (s : State) : Host.Outcome State Fault Refusal :=
  .next (s.jumpIf .nc a16)

/-- JC (R107). -/
def execJc (a16 : Word) (s : State) : Host.Outcome State Fault Refusal :=
  .next (s.jumpIf .c a16)

/-- JPO (R108). -/
def execJpo (a16 : Word) (s : State) : Host.Outcome State Fault Refusal :=
  .next (s.jumpIf .po a16)

/-- JPE (R109). -/
def execJpe (a16 : Word) (s : State) : Host.Outcome State Fault Refusal :=
  .next (s.jumpIf .pe a16)

/-- JP (R110). -/
def execJp (a16 : Word) (s : State) : Host.Outcome State Fault Refusal :=
  .next (s.jumpIf .p a16)

/-- JM (R111). -/
def execJm (a16 : Word) (s : State) : Host.Outcome State Fault Refusal :=
  .next (s.jumpIf .m a16)

/-- CALL: pushes `pc + 3` (R112). -/
def execCall (a16 : Word) (s : State) : Host.Outcome State Fault Refusal :=
  .next (s.callTo 3 a16)

/-- CNZ (R113). -/
def execCnz (a16 : Word) (s : State) : Host.Outcome State Fault Refusal :=
  .next (s.callIf .nz a16)

/-- CZ (R114). -/
def execCz (a16 : Word) (s : State) : Host.Outcome State Fault Refusal :=
  .next (s.callIf .z a16)

/-- CNC (R115). -/
def execCnc (a16 : Word) (s : State) : Host.Outcome State Fault Refusal :=
  .next (s.callIf .nc a16)

/-- CC (R116). -/
def execCc (a16 : Word) (s : State) : Host.Outcome State Fault Refusal :=
  .next (s.callIf .c a16)

/-- CPO (R117). -/
def execCpo (a16 : Word) (s : State) : Host.Outcome State Fault Refusal :=
  .next (s.callIf .po a16)

/-- CPE (R118). -/
def execCpe (a16 : Word) (s : State) : Host.Outcome State Fault Refusal :=
  .next (s.callIf .pe a16)

/-- CP (R119). -/
def execCp (a16 : Word) (s : State) : Host.Outcome State Fault Refusal :=
  .next (s.callIf .p a16)

/-- CM (R120). -/
def execCm (a16 : Word) (s : State) : Host.Outcome State Fault Refusal :=
  .next (s.callIf .m a16)

/-- RET (R121). -/
def execRet (s : State) : Host.Outcome State Fault Refusal :=
  .next (s.returnFrom)

/-- RNZ (R122). -/
def execRnz (s : State) : Host.Outcome State Fault Refusal :=
  .next (s.returnIf .nz)

/-- RZ (R123). -/
def execRz (s : State) : Host.Outcome State Fault Refusal :=
  .next (s.returnIf .z)

/-- RNC (R124). -/
def execRnc (s : State) : Host.Outcome State Fault Refusal :=
  .next (s.returnIf .nc)

/-- RC (R125). -/
def execRc (s : State) : Host.Outcome State Fault Refusal :=
  .next (s.returnIf .c)

/-- RPO (R126). -/
def execRpo (s : State) : Host.Outcome State Fault Refusal :=
  .next (s.returnIf .po)

/-- RPE (R127). -/
def execRpe (s : State) : Host.Outcome State Fault Refusal :=
  .next (s.returnIf .pe)

/-- RP (R128). -/
def execRp (s : State) : Host.Outcome State Fault Refusal :=
  .next (s.returnIf .p)

/-- RM (R129). -/
def execRm (s : State) : Host.Outcome State Fault Refusal :=
  .next (s.returnIf .m)

/-- RST n: pushes `pc + 1`, goes to `n * 8` (R130). -/
def execRst (n : BitVec 3) (s : State) : Host.Outcome State Fault Refusal :=
  .next (s.callTo 1 (BitVec.ofNat 16 (n.toNat * 8)))

/-- PCHL (R131). -/
def execPchl (s : State) : Host.Outcome State Fault Refusal :=
  .next (s.setPc s.hl)

end Sys2Proof.Machine
end

