-- ==== Sys2Proof/Machine/Control.lean ====
section
/-! DEFINITION. The meanings of the control instructions (spec/45_control.md).
Each is called with PC at its opcode byte and ends with `pc <- npc` unless it branches (00_scope.md
R5); none stops. -/

namespace Sys2Proof.Machine

/-- NOP (R139). -/
def execNop (s : State) : Host.Outcome State Fault Refusal :=
  .next (s.advance 1)

/-- HLT: the CPU stops; PC is the spec's decision D14 (log entry 11) (R140). -/
def execHlt (s : State) : Host.Outcome State Fault Refusal :=
  .next ((s.setHalted true).advance 1)

/-- EI (R141). -/
def execEi (s : State) : Host.Outcome State Fault Refusal :=
  .next ((s.setInte true).advance 1)

/-- DI (R142). -/
def execDi (s : State) : Host.Outcome State Fault Refusal :=
  .next ((s.setInte false).advance 1)

end Sys2Proof.Machine
end

