-- ==== Sys2Proof/Machine/DataTransfer.lean ====
section
/-! DEFINITION. The meanings of the data transfer instructions (spec/40_data_transfer.md): none touches a flag
(R55).
Each is called with PC at its opcode byte and ends with `pc <- npc` unless it branches (00_scope.md
R5); none stops. -/

namespace Sys2Proof.Machine

/-- MOV: the source is read before the destination is written (R56). -/
def execMov (dst src : Reg8) (s : State) : Host.Outcome State Fault Refusal :=
  .next ((s.writeReg8 dst (s.readReg8 src)).advance 1)

/-- MVI (R57). -/
def execMvi (dst : Reg8) (d8 : Byte) (s : State) : Host.Outcome State Fault Refusal :=
  .next ((s.writeReg8 dst d8).advance 2)

/-- LXI (R58). -/
def execLxi (rp : Rp) (d16 : Word) (s : State) : Host.Outcome State Fault Refusal :=
  .next ((s.writeRp rp d16).advance 3)

/-- LDA (R59). -/
def execLda (a16 : Word) (s : State) : Host.Outcome State Fault Refusal :=
  .next ((s.setA (s.readByte a16)).advance 3)

/-- STA (R60). -/
def execSta (a16 : Word) (s : State) : Host.Outcome State Fault Refusal :=
  .next ((s.writeByte a16 s.a).advance 3)

/-- LHLD: L from `a16`, H from `a16 + 1` (R61). -/
def execLhld (a16 : Word) (s : State) : Host.Outcome State Fault Refusal :=
  .next ((s.setHL (s.readWord a16)).advance 3)

/-- SHLD: L to `a16`, H to `a16 + 1` (R62). -/
def execShld (a16 : Word) (s : State) : Host.Outcome State Fault Refusal :=
  .next ((s.writeWord a16 s.hl).advance 3)

/-- LDAX (R63). -/
def execLdax (rp : IndRp) (s : State) : Host.Outcome State Fault Refusal :=
  .next ((s.setA (s.readByte (s.readIndRp rp))).advance 1)

/-- STAX (R64). -/
def execStax (rp : IndRp) (s : State) : Host.Outcome State Fault Refusal :=
  .next ((s.writeByte (s.readIndRp rp) s.a).advance 1)

/-- XCHG (R65). -/
def execXchg (s : State) : Host.Outcome State Fault Refusal :=
  .next (((s.setDE s.hl).setHL s.de).advance 1)

/-- XTHL: both bytes read, then both written, then HL (R66). -/
def execXthl (s : State) : Host.Outcome State Fault Refusal :=
  .next (((s.writeWord s.sp s.hl).setHL (s.readWord s.sp)).advance 1)

/-- SPHL (R67). -/
def execSphl (s : State) : Host.Outcome State Fault Refusal :=
  .next ((s.setSp s.hl).advance 1)

end Sys2Proof.Machine
end

