-- ==== Sys2Proof/Machine/Io.lean ====
section
/-! DEFINITION. The meanings of the input/output instructions (spec/46_io.md).
Each is called with PC at its opcode byte and ends with `pc <- npc` unless it branches (00_scope.md
R5); none stops. -/

namespace Sys2Proof.Machine

/-- OUT (R144). -/
def execOutPort (port : Byte) (s : State) : Host.Outcome State Fault Refusal :=
  .next ((s.portWrite port s.a).advance 2)

/-- IN (R145). -/
def execInPort (port : Byte) (s : State) : Host.Outcome State Fault Refusal :=
  .next ((s.setA (portRead port)).advance 2)

end Sys2Proof.Machine
end

