-- ==== Sys2Proof/Machine/Logical.lean ====
section
/-! DEFINITION. The meanings of the logical, compare, rotate and carry instructions (spec/42_logical.md).
Each is called with PC at its opcode byte and ends with `pc <- npc` unless it branches (00_scope.md
R5); none stops. -/

namespace Sys2Proof.Machine

/-- ANA (R87). -/
def execAna (src : Reg8) (s : State) : Host.Outcome State Fault Refusal :=
  .next ((s.setLogic (s.a &&& s.readReg8 src) true).advance 1)

/-- XRA (R88). -/
def execXra (src : Reg8) (s : State) : Host.Outcome State Fault Refusal :=
  .next ((s.setLogic (s.a ^^^ s.readReg8 src) false).advance 1)

/-- ORA (R89). -/
def execOra (src : Reg8) (s : State) : Host.Outcome State Fault Refusal :=
  .next ((s.setLogic (s.a ||| s.readReg8 src) false).advance 1)

/-- CMP: the flags of SUB, A kept (R90). -/
def execCmp (src : Reg8) (s : State) : Host.Outcome State Fault Refusal :=
  .next ((s.setCompare (sub8 s.params.acSub s.a (s.readReg8 src) false)).advance 1)

/-- ANI (R91). -/
def execAni (d8 : Byte) (s : State) : Host.Outcome State Fault Refusal :=
  .next ((s.setLogic (s.a &&& d8) true).advance 2)

/-- XRI (R92). -/
def execXri (d8 : Byte) (s : State) : Host.Outcome State Fault Refusal :=
  .next ((s.setLogic (s.a ^^^ d8) false).advance 2)

/-- ORI (R93). -/
def execOri (d8 : Byte) (s : State) : Host.Outcome State Fault Refusal :=
  .next ((s.setLogic (s.a ||| d8) false).advance 2)

/-- CPI: the flags of SUI, A kept (R94). -/
def execCpi (d8 : Byte) (s : State) : Host.Outcome State Fault Refusal :=
  .next ((s.setCompare (sub8 s.params.acSub s.a d8 false)).advance 2)

/-- RLC (R95). -/
def execRlc (s : State) : Host.Outcome State Fault Refusal :=
  .next ((s.setRotate ((s.a <<< 1) ||| bitByte (s.a.getLsbD 7)) (s.a.getLsbD 7)).advance 1)

/-- RRC (R96). -/
def execRrc (s : State) : Host.Outcome State Fault Refusal :=
  .next ((s.setRotate ((s.a >>> 1) ||| (bitByte (s.a.getLsbD 0) <<< 7)) (s.a.getLsbD 0)).advance 1)

/-- RAL: the old CY goes into bit 0 (R97). -/
def execRal (s : State) : Host.Outcome State Fault Refusal :=
  .next ((s.setRotate ((s.a <<< 1) ||| bitByte s.flags.cy) (s.a.getLsbD 7)).advance 1)

/-- RAR: the old CY goes into bit 7 (R98). -/
def execRar (s : State) : Host.Outcome State Fault Refusal :=
  .next ((s.setRotate ((s.a >>> 1) ||| (bitByte s.flags.cy <<< 7)) (s.a.getLsbD 0)).advance 1)

/-- CMA (R99). -/
def execCma (s : State) : Host.Outcome State Fault Refusal :=
  .next ((s.setA (s.a ^^^ 0xFF)).advance 1)

/-- STC (R100). -/
def execStc (s : State) : Host.Outcome State Fault Refusal :=
  .next ((s.setFlags (carryFlag s.flags true)).advance 1)

/-- CMC (R101). -/
def execCmc (s : State) : Host.Outcome State Fault Refusal :=
  .next ((s.setFlags (carryFlag s.flags (!s.flags.cy))).advance 1)

end Sys2Proof.Machine
end

