-- ==== Sys2Proof/Machine/Stack.lean ====
section
/-! DEFINITION. The meanings of the stack instructions (spec/44_stack.md).
Each is called with PC at its opcode byte and ends with `pc <- npc` unless it branches (00_scope.md
R5); none stops. -/

namespace Sys2Proof.Machine

/-- PUSH (R136). -/
def execPush (rp : StackRp) (s : State) : Host.Outcome State Fault Refusal :=
  .next ((s.push16 (s.readStackRp rp)).advance 1)

/-- POP (R137). -/
def execPop (rp : StackRp) (s : State) : Host.Outcome State Fault Refusal :=
  .next ((s.dropTop.writeStackRp rp s.topOfStack).advance 1)

end Sys2Proof.Machine
end

