-- ==== Sys2Proof/WellFormed.lean ====
section
/-! DEFINITION. The instructions that some bytes encode (30_encoding.md R51, R53). -/

namespace Sys2Proof

/-- Every operand value of every field is an instruction (R53), but for `MOV M, M`, whose pattern
0x76 is HLT (R51, 40_data_transfer.md R56 "but not both M"). -/
def Instr.wellFormed (i : Instr) : Bool :=
  match i with
  | .mov dst src => !(dst == .m && src == .m)
  | .mvi _ _ => true
  | .lxi _ _ => true
  | .lda _ => true
  | .sta _ => true
  | .lhld _ => true
  | .shld _ => true
  | .ldax _ => true
  | .stax _ => true
  | .xchg => true
  | .xthl => true
  | .sphl => true
  | .add _ => true
  | .adc _ => true
  | .adi _ => true
  | .aci _ => true
  | .sub _ => true
  | .sbb _ => true
  | .sui _ => true
  | .sbi _ => true
  | .inr _ => true
  | .dcr _ => true
  | .inx _ => true
  | .dcx _ => true
  | .dad _ => true
  | .daa => true
  | .ana _ => true
  | .xra _ => true
  | .ora _ => true
  | .cmp _ => true
  | .ani _ => true
  | .xri _ => true
  | .ori _ => true
  | .cpi _ => true
  | .rlc => true
  | .rrc => true
  | .ral => true
  | .rar => true
  | .cma => true
  | .stc => true
  | .cmc => true
  | .jmp _ => true
  | .jnz _ => true
  | .jz _ => true
  | .jnc _ => true
  | .jc _ => true
  | .jpo _ => true
  | .jpe _ => true
  | .jp _ => true
  | .jm _ => true
  | .call _ => true
  | .cnz _ => true
  | .cz _ => true
  | .cnc _ => true
  | .cc _ => true
  | .cpo _ => true
  | .cpe _ => true
  | .cp _ => true
  | .cm _ => true
  | .ret => true
  | .rnz => true
  | .rz => true
  | .rnc => true
  | .rc => true
  | .rpo => true
  | .rpe => true
  | .rp => true
  | .rm => true
  | .rst _ => true
  | .pchl => true
  | .push _ => true
  | .pop _ => true
  | .nop => true
  | .hlt => true
  | .ei => true
  | .di => true
  | .outPort _ => true
  | .inPort _ => true

end Sys2Proof
end

