-- ==== Sys2Proof/Decode.lean ====
section
/-! DEFINITION. The decoder of instruction bytes and, after it, the encoder (spec/30_encoding.md). -/

namespace Sys2Proof

/-! ## Fields (R44 to R47) -/

/-- The register of an operand code (10_state.md R8). -/
def Reg8.ofCode (code : BitVec 3) : Reg8 :=
  match code.toNat with
  | 0 => .b
  | 1 => .c
  | 2 => .d
  | 3 => .e
  | 4 => .h
  | 5 => .l
  | 6 => .m
  | _ => .a

/-- The pair of a `PP` field in LXI, INX, DCX, DAD (10_state.md R10). -/
def Rp.ofCode (code : BitVec 2) : Rp :=
  match code.toNat with
  | 0 => .bc
  | 1 => .de
  | 2 => .hl
  | _ => .sp

/-- The pair of a `PP` field in PUSH and POP (10_state.md R10). -/
def StackRp.ofCode (code : BitVec 2) : StackRp :=
  match code.toNat with
  | 0 => .bc
  | 1 => .de
  | 2 => .hl
  | _ => .psw

/-- The condition of a `CCC` field (R46). -/
def Cond.ofCode (code : BitVec 3) : Cond :=
  match code.toNat with
  | 0 => .nz
  | 1 => .z
  | 2 => .nc
  | 3 => .c
  | 4 => .po
  | 5 => .pe
  | 6 => .p
  | _ => .m

/-- Opcode bits 7:6, the first split of the map (R49). -/
def topBits (op : Byte) : BitVec 2 := op.extractLsb' 6 2

/-- Opcode bits 5:3: `DDD`, `OOO`, `CCC`, `NNN` (R44, R46, R47). -/
def fieldD (op : Byte) : BitVec 3 := op.extractLsb' 3 3

/-- Opcode bits 2:0: `SSS` (R44). -/
def fieldS (op : Byte) : BitVec 3 := op.extractLsb' 0 3

/-- Opcode bits 5:4: `PP` (R45). -/
def fieldP (op : Byte) : BitVec 2 := op.extractLsb' 4 2

/-- Opcode bit 3, which the map uses beside `PP` (R49). -/
def bit3 (op : Byte) : Bool := op.getLsbD 3

/-! ## The opcode map (R49) -/

/-- What an opcode byte stands for: an instruction that still waits for its operand bytes
(formats of R43, lengths of R42). -/
inductive Form where
  /-- 1 byte -/
  | plain (i : Instr)
  /-- 2 bytes: d8 follows -/
  | imm8 (build : Byte → Instr)
  /-- 3 bytes: d16 or a16 follows, low byte first -/
  | imm16 (build : Word → Instr)

/-- The length in bytes (R42). -/
def Form.length : Form → Nat
  | .plain _ => 1
  | .imm8 _ => 2
  | .imm16 _ => 3

/-- The eight conditional jumps by condition (R46). -/
def jumpOn (cond : Cond) (a16 : Word) : Instr :=
  match cond with
  | .nz => .jnz a16
  | .z => .jz a16
  | .nc => .jnc a16
  | .c => .jc a16
  | .po => .jpo a16
  | .pe => .jpe a16
  | .p => .jp a16
  | .m => .jm a16

/-- The eight conditional calls by condition (R46). -/
def callOn (cond : Cond) (a16 : Word) : Instr :=
  match cond with
  | .nz => .cnz a16
  | .z => .cz a16
  | .nc => .cnc a16
  | .c => .cc a16
  | .po => .cpo a16
  | .pe => .cpe a16
  | .p => .cp a16
  | .m => .cm a16

/-- The eight conditional returns by condition (R46). -/
def retOn (cond : Cond) : Instr :=
  match cond with
  | .nz => .rnz
  | .z => .rz
  | .nc => .rnc
  | .c => .rc
  | .po => .rpo
  | .pe => .rpe
  | .p => .rp
  | .m => .rm

/-- The eight register operations by `OOO` (R47, format `S1`). -/
def aluReg (o : BitVec 3) (src : Reg8) : Instr :=
  match o.toNat with
  | 0 => .add src
  | 1 => .adc src
  | 2 => .sub src
  | 3 => .sbb src
  | 4 => .ana src
  | 5 => .xra src
  | 6 => .ora src
  | _ => .cmp src

/-- The eight immediate operations by `OOO` (R47, format `I2`). -/
def aluImm (o : BitVec 3) (d8 : Byte) : Instr :=
  match o.toNat with
  | 0 => .adi d8
  | 1 => .aci d8
  | 2 => .sui d8
  | 3 => .sbi d8
  | 4 => .ani d8
  | 5 => .xri d8
  | 6 => .ori d8
  | _ => .cpi d8

/-- Top bits `00`, bits 2:0 = `010`: the direct and pair-indirect accesses (R49). -/
def decodeAccess (op : Byte) : Form :=
  match (fieldD op).toNat with
  | 0 => .plain (.stax .bc)
  | 1 => .plain (.ldax .bc)
  | 2 => .plain (.stax .de)
  | 3 => .plain (.ldax .de)
  | 4 => .imm16 .shld
  | 5 => .imm16 .lhld
  | 6 => .imm16 .sta
  | _ => .imm16 .lda

/-- Top bits `00`, bits 2:0 = `111`: the operations on A and CY (R49). -/
def decodeAccumulator (op : Byte) : Form :=
  match (fieldD op).toNat with
  | 0 => .plain .rlc
  | 1 => .plain .rrc
  | 2 => .plain .ral
  | 3 => .plain .rar
  | 4 => .plain .daa
  | 5 => .plain .cma
  | 6 => .plain .stc
  | _ => .plain .cmc

/-- Top bits `00` (R49, first table). -/
def decodeTop00 (op : Byte) : Option Form :=
  match (fieldS op).toNat with
  | 0 => if fieldD op = 0 then some (.plain .nop) else none
  | 1 => some (if bit3 op then .plain (.dad (Rp.ofCode (fieldP op)))
      else .imm16 (.lxi (Rp.ofCode (fieldP op))))
  | 2 => some (decodeAccess op)
  | 3 => some (.plain (if bit3 op then .dcx (Rp.ofCode (fieldP op))
      else .inx (Rp.ofCode (fieldP op))))
  | 4 => some (.plain (.inr (Reg8.ofCode (fieldD op))))
  | 5 => some (.plain (.dcr (Reg8.ofCode (fieldD op))))
  | 6 => some (.imm8 (.mvi (Reg8.ofCode (fieldD op))))
  | _ => some (decodeAccumulator op)

/-- Top bits `01`: MOV, with 0x76 tested first (R51). -/
def decodeTop01 (op : Byte) : Form :=
  if op = 0x76 then .plain .hlt
  else .plain (.mov (Reg8.ofCode (fieldD op)) (Reg8.ofCode (fieldS op)))

/-- Top bits `11`, bits 2:0 = `001`: POP, and RET, PCHL, SPHL (R49). -/
def decodePop (op : Byte) : Option Form :=
  if bit3 op then
    match (fieldP op).toNat with
    | 0 => some (.plain .ret)
    | 1 => none
    | 2 => some (.plain .pchl)
    | _ => some (.plain .sphl)
  else some (.plain (.pop (StackRp.ofCode (fieldP op))))

/-- Top bits `11`, bits 2:0 = `011` (R49). -/
def decodeMisc (op : Byte) : Option Form :=
  match (fieldD op).toNat with
  | 0 => some (.imm16 .jmp)
  | 1 => none
  | 2 => some (.imm8 .outPort)
  | 3 => some (.imm8 .inPort)
  | 4 => some (.plain .xthl)
  | 5 => some (.plain .xchg)
  | 6 => some (.plain .di)
  | _ => some (.plain .ei)

/-- Top bits `11`, bits 2:0 = `101`: PUSH and CALL (R49). -/
def decodePush (op : Byte) : Option Form :=
  if bit3 op then
    if fieldP op = 0 then some (.imm16 .call) else none
  else some (.plain (.push (StackRp.ofCode (fieldP op))))

/-- Top bits `11` (R49, second table). -/
def decodeTop11 (op : Byte) : Option Form :=
  match (fieldS op).toNat with
  | 0 => some (.plain (retOn (Cond.ofCode (fieldD op))))
  | 1 => decodePop op
  | 2 => some (.imm16 (jumpOn (Cond.ofCode (fieldD op))))
  | 3 => decodeMisc op
  | 4 => some (.imm16 (callOn (Cond.ofCode (fieldD op))))
  | 5 => decodePush op
  | 6 => some (.imm8 (aluImm (fieldD op)))
  | _ => some (.plain (.rst (fieldD op)))

/-- The opcode map (R49): the form of an opcode byte, none for the 12 values of R52. -/
def decodeOpcode (op : Byte) : Option Form :=
  match (topBits op).toNat with
  | 0 => decodeTop00 op
  | 1 => some (decodeTop01 op)
  | 2 => some (.plain (aluReg (fieldD op) (Reg8.ofCode (fieldS op))))
  | _ => decodeTop11 op

/-! ## The decoder -/

/-- Why some bytes are no instruction. -/
inductive DecodeError where
  /-- the first byte is one of the 12 values of R52 -/
  | undefinedOpcode (op : Byte)
  /-- fewer bytes than the instruction's length (R42), or none: never what a fetch meets -/
  | truncated
deriving DecidableEq, Repr

/-- Reads one instruction from the front of some bytes, opcode first, then d8, or the low and the
high byte of d16 or a16 (R41, R48); answers it with the bytes that follow. Total: other bytes are
rejected by name. -/
def decode (bytes : List Byte) : Except DecodeError (Instr × List Byte) :=
  match bytes with
  | [] => .error .truncated
  | op :: rest =>
    match decodeOpcode op, rest with
    | none, _ => .error (.undefinedOpcode op)
    | some (.plain i), _ => .ok (i, rest)
    | some (.imm8 build), d8 :: rest' => .ok (build d8, rest')
    | some (.imm16 build), lo :: hi :: rest' => .ok (build (hi ++ lo), rest')
    | some (.imm8 _), [] => .error .truncated
    | some (.imm16 _), _ => .error .truncated

/-- What an unlisted opcode byte executes as under `UNDEF_OPCODE = ALIAS_8080`: NOP, JMP, RET or
CALL (R52); every other byte is itself. -/
def aliasOpcode (op : Byte) : Byte :=
  if op = 0x08 ∨ op = 0x10 ∨ op = 0x18 ∨ op = 0x20 ∨ op = 0x28 ∨ op = 0x30 ∨ op = 0x38 then 0x00
  else if op = 0xCB then 0xC3
  else if op = 0xD9 then 0xC9
  else if op = 0xDD ∨ op = 0xED ∨ op = 0xFD then 0xCD
  else op

/-- The longest instruction's bytes from an instruction given as a number, `nbits` of it, bit 0 the
least significant bit of the first byte; every bit above is 0. -/
def tableBytes (nbits w : Nat) : List Byte :=
  let bits := w % 2 ^ nbits
  [BitVec.ofNat 8 bits, BitVec.ofNat 8 (bits / 256), BitVec.ofNat 8 (bits / 65536)]

/-- The instruction that the decoder reads from a row of spec/opcode_table.json: bits 7:0 of `w`
are its opcode byte. -/
def decodeTableWord (nbits w : Nat) : Option Instr :=
  match decode (tableBytes nbits w) with
  | .ok (i, _) => some i
  | .error _ => none

/-! ## The encoder (R43 to R48) -/

/-- The operand code of a register (10_state.md R8). -/
def Reg8.code (r : Reg8) : BitVec 3 :=
  match r with
  | .b => 0b000
  | .c => 0b001
  | .d => 0b010
  | .e => 0b011
  | .h => 0b100
  | .l => 0b101
  | .m => 0b110
  | .a => 0b111

/-- The code of a pair (10_state.md R10). -/
def Rp.code (rp : Rp) : BitVec 2 :=
  match rp with
  | .bc => 0b00
  | .de => 0b01
  | .hl => 0b10
  | .sp => 0b11

/-- The code of a PUSH or POP pair (10_state.md R10). -/
def StackRp.code (rp : StackRp) : BitVec 2 :=
  match rp with
  | .bc => 0b00
  | .de => 0b01
  | .hl => 0b10
  | .psw => 0b11

/-- The code of an LDAX or STAX pair (10_state.md R10). -/
def IndRp.code (rp : IndRp) : BitVec 2 :=
  match rp with
  | .bc => 0b00
  | .de => 0b01

/-- An opcode byte and d16 or a16, low byte first (R48). -/
def withWord (op : Byte) (v : Word) : List Byte :=
  [op, v.extractLsb' 0 8, v.extractLsb' 8 8]

/-- The bytes of an instruction: the opcode from its layout or its single value (R43 to R47), then
its operand bytes (R48). -/
def encode (i : Instr) : List Byte :=
  match i with
  | .mov dst src => [0b01#2 ++ dst.code ++ src.code]
  | .mvi dst d8 => [0b00#2 ++ dst.code ++ 0b110#3, d8]
  | .lxi rp d16 => withWord (0b00#2 ++ rp.code ++ 0b0001#4) d16
  | .lda a16 => withWord 0x3A a16
  | .sta a16 => withWord 0x32 a16
  | .lhld a16 => withWord 0x2A a16
  | .shld a16 => withWord 0x22 a16
  | .ldax rp => [0b00#2 ++ rp.code ++ 0b1010#4]
  | .stax rp => [0b00#2 ++ rp.code ++ 0b0010#4]
  | .xchg => [0xEB]
  | .xthl => [0xE3]
  | .sphl => [0xF9]
  | .add src => [0b10#2 ++ 0b000#3 ++ src.code]
  | .adc src => [0b10#2 ++ 0b001#3 ++ src.code]
  | .adi d8 => [0xC6, d8]
  | .aci d8 => [0xCE, d8]
  | .sub src => [0b10#2 ++ 0b010#3 ++ src.code]
  | .sbb src => [0b10#2 ++ 0b011#3 ++ src.code]
  | .sui d8 => [0xD6, d8]
  | .sbi d8 => [0xDE, d8]
  | .inr r => [0b00#2 ++ r.code ++ 0b100#3]
  | .dcr r => [0b00#2 ++ r.code ++ 0b101#3]
  | .inx rp => [0b00#2 ++ rp.code ++ 0b0011#4]
  | .dcx rp => [0b00#2 ++ rp.code ++ 0b1011#4]
  | .dad rp => [0b00#2 ++ rp.code ++ 0b1001#4]
  | .daa => [0x27]
  | .ana src => [0b10#2 ++ 0b100#3 ++ src.code]
  | .xra src => [0b10#2 ++ 0b101#3 ++ src.code]
  | .ora src => [0b10#2 ++ 0b110#3 ++ src.code]
  | .cmp src => [0b10#2 ++ 0b111#3 ++ src.code]
  | .ani d8 => [0xE6, d8]
  | .xri d8 => [0xEE, d8]
  | .ori d8 => [0xF6, d8]
  | .cpi d8 => [0xFE, d8]
  | .rlc => [0x07]
  | .rrc => [0x0F]
  | .ral => [0x17]
  | .rar => [0x1F]
  | .cma => [0x2F]
  | .stc => [0x37]
  | .cmc => [0x3F]
  | .jmp a16 => withWord 0xC3 a16
  | .jnz a16 => withWord 0xC2 a16
  | .jz a16 => withWord 0xCA a16
  | .jnc a16 => withWord 0xD2 a16
  | .jc a16 => withWord 0xDA a16
  | .jpo a16 => withWord 0xE2 a16
  | .jpe a16 => withWord 0xEA a16
  | .jp a16 => withWord 0xF2 a16
  | .jm a16 => withWord 0xFA a16
  | .call a16 => withWord 0xCD a16
  | .cnz a16 => withWord 0xC4 a16
  | .cz a16 => withWord 0xCC a16
  | .cnc a16 => withWord 0xD4 a16
  | .cc a16 => withWord 0xDC a16
  | .cpo a16 => withWord 0xE4 a16
  | .cpe a16 => withWord 0xEC a16
  | .cp a16 => withWord 0xF4 a16
  | .cm a16 => withWord 0xFC a16
  | .ret => [0xC9]
  | .rnz => [0xC0]
  | .rz => [0xC8]
  | .rnc => [0xD0]
  | .rc => [0xD8]
  | .rpo => [0xE0]
  | .rpe => [0xE8]
  | .rp => [0xF0]
  | .rm => [0xF8]
  | .rst n => [0b11#2 ++ n ++ 0b111#3]
  | .pchl => [0xE9]
  | .push rp => [0b11#2 ++ rp.code ++ 0b0101#4]
  | .pop rp => [0b11#2 ++ rp.code ++ 0b0001#4]
  | .nop => [0x00]
  | .hlt => [0x76]
  | .ei => [0xFB]
  | .di => [0xF3]
  | .outPort port => [0xD3, port]
  | .inPort port => [0xDB, port]

end Sys2Proof
end

