-- ==== Sys2Proof/Machine/Fetch.lean ====
section
/-! DEFINITION. Fetching an instruction's bytes (00_scope.md R4 steps 2 to 4, 20_memory.md R29), and
placing them where the fetch reads. -/

namespace Sys2Proof.Machine

/-- What an opcode byte executes as under `UNDEF_OPCODE` (30_encoding.md R52). -/
def resolveOpcode (mode : UndefOpcode) (op : Byte) : Byte :=
  match mode with
  | .fault => op
  | .alias8080 => aliasOpcode op

/-- The opcode byte at PC and the two bytes after it, addresses wrapping (R33, R48). The decoder
takes as many of them as the instruction is long; a read has no side effect (R31), so the bytes it
does not take are as if not read. -/
def State.fetchBytes (s : State) : List Byte :=
  [resolveOpcode s.params.undefOpcode (s.readByte s.pc), s.readByte (s.pc + 1),
   s.readByte (s.pc + 2)]

/-- Stores some bytes at consecutive addresses from `addr` on, the first at `addr`. -/
def State.storeBytes (s : State) (addr : Word) (bytes : List Byte) : State :=
  match bytes with
  | [] => s
  | b :: rest => State.storeBytes (s.writeByte addr b) (addr + 1) rest

end Sys2Proof.Machine
end

