-- ==== Sys2Proof/Machine/Step.lean ====
section
/-! DEFINITION. The step of the machine (00_scope.md R4). -/

namespace Sys2Proof.Machine

/-- One step: nothing while stopped (45_control.md R140); else the instruction at PC, or, for one of
the 12 unlisted opcode bytes under `UNDEF_OPCODE = FAULT`, the model's fault (30_encoding.md R52).
Three bytes are given, so the decoder rejects nothing else. -/
def step (s : State) : Host.Outcome State Fault Refusal :=
  if s.halted then .next s
  else
    match decode s.fetchBytes with
    | .ok (i, _) => exec i s
    | .error _ => .fault (.undefinedOpcode s.pc (s.readByte s.pc))

/-- `s` with an instruction of opcode_table.json, given as a number, at PC, and not stopped: the next
step fetches it. It stands for the load of a program from outside the machine (log entry 10). -/
def State.withFetchWord (s : State) (nbits w : Nat) : State :=
  (s.storeBytes s.pc (tableBytes nbits w)).setHalted false

end Sys2Proof.Machine
end

