-- ==== Sys2Proof/Safety.lean ====
section
/-! DEFINITION. What counts as a safe run, and the terms the statements use: which bytes decode to an
instruction, the spec's flag columns, and what each instruction may write. -/

namespace Sys2Proof.Machine

/-! ## Runs -/

/-- The step goes on: it reports no `UndefinedOpcode` (30_encoding.md R52). -/
def SafeStep (s : State) : Prop := ∃ t, step s = .next t

/-- The states of the run that starts at `s`. -/
inductive Reaches (s : State) : State → Prop
  | start : Reaches s s
  | step (t u : State) : Reaches s t → Machine.step t = .next u → Reaches s u

/-- A run that never faults: it ends in HLT or goes on for ever (70_reset_and_hazards.md R167). -/
def SafeRun (s : State) : Prop := ∀ t, Reaches s t → SafeStep t

/-- The final state of a run (R167). -/
def State.final (s : State) : Bool := s.halted

/-- The states after one instruction after another, with no fetch between. -/
def execSeq (is : List Instr) (s : State) : Option State :=
  match is with
  | [] => some s
  | i :: rest =>
    match exec i s with
    | .next t => execSeq rest t
    | .fault _ => none
    | .refused _ => none

/-! ## Encodings -/

/-- The decoder reads `bytes` as `i`, whatever follows. -/
def DecodesTo (bytes : List Byte) (i : Instr) : Prop :=
  ∀ rest, decode (bytes ++ rest) = .ok (i, rest)

/-- The 12 byte values that are no instruction (R52). -/
def undefinedOpcodes : List Byte :=
  [0x08, 0x10, 0x18, 0x20, 0x28, 0x30, 0x38, 0xCB, 0xD9, 0xDD, 0xED, 0xFD]

/-- The opcode bytes of the 3-byte instructions (R42). -/
def threeByteOpcodes : List Byte :=
  [0x01, 0x11, 0x21, 0x31, 0x22, 0x2A, 0x32, 0x3A,
   0xC2, 0xCA, 0xD2, 0xDA, 0xE2, 0xEA, 0xF2, 0xFA,
   0xC4, 0xCC, 0xD4, 0xDC, 0xE4, 0xEC, 0xF4, 0xFC, 0xC3, 0xCD]

/-- The opcode bytes of the 2-byte instructions (R42). -/
def twoByteOpcodes : List Byte :=
  [0x06, 0x0E, 0x16, 0x1E, 0x26, 0x2E, 0x36, 0x3E,
   0xC6, 0xCE, 0xD6, 0xDE, 0xE6, 0xEE, 0xF6, 0xFE, 0xD3, 0xDB]

/-- The length of a defined opcode byte's instruction, as R42 lists it. -/
def opcodeLength (op : Byte) : Nat :=
  if op ∈ threeByteOpcodes then 3 else if op ∈ twoByteOpcodes then 2 else 1

/-! ## Flags -/

/-- S, Z and P say what R14 and R15 say of the result `v`: bit 7, zero, an even number of ones. -/
def ResultFlags (f : Flags) (v : Byte) : Prop :=
  f.s = decide (v.toNat ≥ 128) ∧ f.z = decide (v.toNat = 0) ∧
    f.p = decide (((List.range 8).map (fun i => v.toNat / 2 ^ i % 2)).sum % 2 = 0)

/-- The patterns of the source's column S Z AC P CY (00_scope.md section 5.2). -/
inductive FlagColumn where
  /-- `-----` -/
  | none
  /-- `*****` -/
  | all
  /-- `****-` -/
  | allButCarry
  /-- `----*` -/
  | carry
  /-- `----1` -/
  | carrySet
  /-- `**1*0` -/
  | andColumn
  /-- `**0*0` -/
  | orColumn
deriving DecidableEq, Repr

/-- The flag column of each instruction (opcode_table.json "flags"), with POP PSW as the prose says
(90_conflicts.md C1). -/
def flagColumn (i : Instr) : FlagColumn :=
  match i with
  | .mov _ _ => .none
  | .mvi _ _ => .none
  | .lxi _ _ => .none
  | .lda _ => .none
  | .sta _ => .none
  | .lhld _ => .none
  | .shld _ => .none
  | .ldax _ => .none
  | .stax _ => .none
  | .xchg => .none
  | .xthl => .none
  | .sphl => .none
  | .add _ => .all
  | .adc _ => .all
  | .adi _ => .all
  | .aci _ => .all
  | .sub _ => .all
  | .sbb _ => .all
  | .sui _ => .all
  | .sbi _ => .all
  | .inr _ => .allButCarry
  | .dcr _ => .allButCarry
  | .inx _ => .none
  | .dcx _ => .none
  | .dad _ => .carry
  | .daa => .all
  | .ana _ => .andColumn
  | .xra _ => .orColumn
  | .ora _ => .orColumn
  | .cmp _ => .all
  | .ani _ => .andColumn
  | .xri _ => .orColumn
  | .ori _ => .orColumn
  | .cpi _ => .all
  | .rlc => .carry
  | .rrc => .carry
  | .ral => .carry
  | .rar => .carry
  | .cma => .none
  | .stc => .carrySet
  | .cmc => .carry
  | .jmp _ => .none
  | .jnz _ => .none
  | .jz _ => .none
  | .jnc _ => .none
  | .jc _ => .none
  | .jpo _ => .none
  | .jpe _ => .none
  | .jp _ => .none
  | .jm _ => .none
  | .call _ => .none
  | .cnz _ => .none
  | .cz _ => .none
  | .cnc _ => .none
  | .cc _ => .none
  | .cpo _ => .none
  | .cpe _ => .none
  | .cp _ => .none
  | .cm _ => .none
  | .ret => .none
  | .rnz => .none
  | .rz => .none
  | .rnc => .none
  | .rc => .none
  | .rpo => .none
  | .rpe => .none
  | .rp => .none
  | .rm => .none
  | .rst _ => .none
  | .pchl => .none
  | .push _ => .none
  | .pop .psw => .all
  | .pop .bc => .none
  | .pop .de => .none
  | .pop .hl => .none
  | .nop => .none
  | .hlt => .none
  | .ei => .none
  | .di => .none
  | .outPort _ => .none
  | .inPort _ => .none

/-- What a column promises about the flags it does not mark `*`. -/
def FlagColumn.Allows (col : FlagColumn) (f g : Flags) : Prop :=
  match col with
  | .none => g = f
  | .all => True
  | .allButCarry => g.cy = f.cy
  | .carry => g = { f with cy := g.cy }
  | .carrySet => g = { f with cy := true }
  | .andColumn => g.ac = true ∧ g.cy = false
  | .orColumn => g.ac = false ∧ g.cy = false

/-! ## What an instruction may write -/

/-- The addresses an instruction stores to (20_memory.md R34). -/
def storedAddresses (i : Instr) (s : State) : List Word :=
  match i with
  | .mov dst _ => if dst = .m then [s.hl] else []
  | .mvi dst _ => if dst = .m then [s.hl] else []
  | .lxi _ _ => []
  | .lda _ => []
  | .sta a16 => [a16]
  | .lhld _ => []
  | .shld a16 => [a16, a16 + 1]
  | .ldax _ => []
  | .stax rp => [s.readIndRp rp]
  | .xchg => []
  | .xthl => [s.sp, s.sp + 1]
  | .sphl => []
  | .add _ => []
  | .adc _ => []
  | .adi _ => []
  | .aci _ => []
  | .sub _ => []
  | .sbb _ => []
  | .sui _ => []
  | .sbi _ => []
  | .inr r => if r = .m then [s.hl] else []
  | .dcr r => if r = .m then [s.hl] else []
  | .inx _ => []
  | .dcx _ => []
  | .dad _ => []
  | .daa => []
  | .ana _ => []
  | .xra _ => []
  | .ora _ => []
  | .cmp _ => []
  | .ani _ => []
  | .xri _ => []
  | .ori _ => []
  | .cpi _ => []
  | .rlc => []
  | .rrc => []
  | .ral => []
  | .rar => []
  | .cma => []
  | .stc => []
  | .cmc => []
  | .jmp _ => []
  | .jnz _ => []
  | .jz _ => []
  | .jnc _ => []
  | .jc _ => []
  | .jpo _ => []
  | .jpe _ => []
  | .jp _ => []
  | .jm _ => []
  | .call _ => [s.sp - 1, s.sp - 2]
  | .cnz _ => if condHolds .nz s.flags then [s.sp - 1, s.sp - 2] else []
  | .cz _ => if condHolds .z s.flags then [s.sp - 1, s.sp - 2] else []
  | .cnc _ => if condHolds .nc s.flags then [s.sp - 1, s.sp - 2] else []
  | .cc _ => if condHolds .c s.flags then [s.sp - 1, s.sp - 2] else []
  | .cpo _ => if condHolds .po s.flags then [s.sp - 1, s.sp - 2] else []
  | .cpe _ => if condHolds .pe s.flags then [s.sp - 1, s.sp - 2] else []
  | .cp _ => if condHolds .p s.flags then [s.sp - 1, s.sp - 2] else []
  | .cm _ => if condHolds .m s.flags then [s.sp - 1, s.sp - 2] else []
  | .ret => []
  | .rnz => []
  | .rz => []
  | .rnc => []
  | .rc => []
  | .rpo => []
  | .rpe => []
  | .rp => []
  | .rm => []
  | .rst _ => [s.sp - 1, s.sp - 2]
  | .pchl => []
  | .push _ => [s.sp - 1, s.sp - 2]
  | .pop _ => []
  | .nop => []
  | .hlt => []
  | .ei => []
  | .di => []
  | .outPort _ => []
  | .inPort _ => []

/-- The registers of a pair. -/
def rpHalves (rp : Rp) : List Reg8 :=
  match rp with
  | .bc => [.b, .c]
  | .de => [.d, .e]
  | .hl => [.h, .l]
  | .sp => []

/-- The registers of a PUSH or POP pair. -/
def stackRpHalves (rp : StackRp) : List Reg8 :=
  match rp with
  | .bc => [.b, .c]
  | .de => [.d, .e]
  | .hl => [.h, .l]
  | .psw => [.a]

/-- The registers an instruction may write (10_state.md R27). -/
def writtenRegisters (i : Instr) : List Reg8 :=
  match i with
  | .mov dst _ => [dst]
  | .mvi dst _ => [dst]
  | .lxi rp _ => rpHalves rp
  | .lda _ => [.a]
  | .sta _ => []
  | .lhld _ => [.h, .l]
  | .shld _ => []
  | .ldax _ => [.a]
  | .stax _ => []
  | .xchg => [.d, .e, .h, .l]
  | .xthl => [.h, .l]
  | .sphl => []
  | .add _ => [.a]
  | .adc _ => [.a]
  | .adi _ => [.a]
  | .aci _ => [.a]
  | .sub _ => [.a]
  | .sbb _ => [.a]
  | .sui _ => [.a]
  | .sbi _ => [.a]
  | .inr r => [r]
  | .dcr r => [r]
  | .inx rp => rpHalves rp
  | .dcx rp => rpHalves rp
  | .dad _ => [.h, .l]
  | .daa => [.a]
  | .ana _ => [.a]
  | .xra _ => [.a]
  | .ora _ => [.a]
  | .cmp _ => []
  | .ani _ => [.a]
  | .xri _ => [.a]
  | .ori _ => [.a]
  | .cpi _ => []
  | .rlc => [.a]
  | .rrc => [.a]
  | .ral => [.a]
  | .rar => [.a]
  | .cma => [.a]
  | .stc => []
  | .cmc => []
  | .jmp _ => []
  | .jnz _ => []
  | .jz _ => []
  | .jnc _ => []
  | .jc _ => []
  | .jpo _ => []
  | .jpe _ => []
  | .jp _ => []
  | .jm _ => []
  | .call _ => []
  | .cnz _ => []
  | .cz _ => []
  | .cnc _ => []
  | .cc _ => []
  | .cpo _ => []
  | .cpe _ => []
  | .cp _ => []
  | .cm _ => []
  | .ret => []
  | .rnz => []
  | .rz => []
  | .rnc => []
  | .rc => []
  | .rpo => []
  | .rpe => []
  | .rp => []
  | .rm => []
  | .rst _ => []
  | .pchl => []
  | .push _ => []
  | .pop rp => stackRpHalves rp
  | .nop => []
  | .hlt => []
  | .ei => []
  | .di => []
  | .outPort _ => []
  | .inPort _ => [.a]

/-- Whether an instruction may write SP (R27). -/
def mayWriteSp (i : Instr) : Bool :=
  match i with
  | .mov _ _ => false
  | .mvi _ _ => false
  | .lxi rp _ => rp == .sp
  | .lda _ => false
  | .sta _ => false
  | .lhld _ => false
  | .shld _ => false
  | .ldax _ => false
  | .stax _ => false
  | .xchg => false
  | .xthl => false
  | .sphl => true
  | .add _ => false
  | .adc _ => false
  | .adi _ => false
  | .aci _ => false
  | .sub _ => false
  | .sbb _ => false
  | .sui _ => false
  | .sbi _ => false
  | .inr _ => false
  | .dcr _ => false
  | .inx rp => rp == .sp
  | .dcx rp => rp == .sp
  | .dad _ => false
  | .daa => false
  | .ana _ => false
  | .xra _ => false
  | .ora _ => false
  | .cmp _ => false
  | .ani _ => false
  | .xri _ => false
  | .ori _ => false
  | .cpi _ => false
  | .rlc => false
  | .rrc => false
  | .ral => false
  | .rar => false
  | .cma => false
  | .stc => false
  | .cmc => false
  | .jmp _ => false
  | .jnz _ => false
  | .jz _ => false
  | .jnc _ => false
  | .jc _ => false
  | .jpo _ => false
  | .jpe _ => false
  | .jp _ => false
  | .jm _ => false
  | .call _ => true
  | .cnz _ => true
  | .cz _ => true
  | .cnc _ => true
  | .cc _ => true
  | .cpo _ => true
  | .cpe _ => true
  | .cp _ => true
  | .cm _ => true
  | .ret => true
  | .rnz => true
  | .rz => true
  | .rnc => true
  | .rc => true
  | .rpo => true
  | .rpe => true
  | .rp => true
  | .rm => true
  | .rst _ => true
  | .pchl => false
  | .push _ => true
  | .pop _ => true
  | .nop => false
  | .hlt => false
  | .ei => false
  | .di => false
  | .outPort _ => false
  | .inPort _ => false

/-- The branch family (43_branch.md): the instructions that may write a PC other than `npc`. -/
def isBranch (i : Instr) : Bool :=
  match i with
  | .mov _ _ => false
  | .mvi _ _ => false
  | .lxi _ _ => false
  | .lda _ => false
  | .sta _ => false
  | .lhld _ => false
  | .shld _ => false
  | .ldax _ => false
  | .stax _ => false
  | .xchg => false
  | .xthl => false
  | .sphl => false
  | .add _ => false
  | .adc _ => false
  | .adi _ => false
  | .aci _ => false
  | .sub _ => false
  | .sbb _ => false
  | .sui _ => false
  | .sbi _ => false
  | .inr _ => false
  | .dcr _ => false
  | .inx _ => false
  | .dcx _ => false
  | .dad _ => false
  | .daa => false
  | .ana _ => false
  | .xra _ => false
  | .ora _ => false
  | .cmp _ => false
  | .ani _ => false
  | .xri _ => false
  | .ori _ => false
  | .cpi _ => false
  | .rlc => false
  | .rrc => false
  | .ral => false
  | .rar => false
  | .cma => false
  | .stc => false
  | .cmc => false
  | .jmp _ => true
  | .jnz _ => true
  | .jz _ => true
  | .jnc _ => true
  | .jc _ => true
  | .jpo _ => true
  | .jpe _ => true
  | .jp _ => true
  | .jm _ => true
  | .call _ => true
  | .cnz _ => true
  | .cz _ => true
  | .cnc _ => true
  | .cc _ => true
  | .cpo _ => true
  | .cpe _ => true
  | .cp _ => true
  | .cm _ => true
  | .ret => true
  | .rnz => true
  | .rz => true
  | .rnc => true
  | .rc => true
  | .rpo => true
  | .rpe => true
  | .rp => true
  | .rm => true
  | .rst _ => true
  | .pchl => true
  | .push _ => false
  | .pop _ => false
  | .nop => false
  | .hlt => false
  | .ei => false
  | .di => false
  | .outPort _ => false
  | .inPort _ => false

/-- What a write of `v` to the operand `r` does and leaves (10_state.md R8): the named register, or
the one byte at HL; PC and the flags are the caller's to state. -/
def WroteOperand (r : Reg8) (v : Byte) (s t : State) : Prop :=
  (∀ q, q ≠ .m → t.readReg8 q = if q = r then v else s.readReg8 q) ∧
    (∀ x, t.readByte x = if r = .m ∧ x = s.h ++ s.l then v else s.readByte x) ∧
    t.sp = s.sp ∧ t.inte = s.inte ∧ t.halted = s.halted ∧ t.params = s.params

/-- The packed-BCD byte of a number below 100 (41_arithmetic.md R84). -/
def bcdByte (n : Nat) : Byte := BitVec.ofNat 8 (n / 10 * 16 + n % 10)

end Sys2Proof.Machine
end

