-- ==== Sys2Proof/Certificates/Slice0/Obligations.lean ====
section
/-! DEFINITION. The statements for the provers, from the numbered rules of spec/.

In every statement PC moves on mod 65536 and every address wraps mod 65536: the spec's decisions D2
and D24 (log entry 14). -/

open Sys2Proof Sys2Proof.Machine

/-! ## Encoding -/

/-- Decoding an encoded well-formed instruction gives it back, with every operand at every value and
whatever bytes follow (30_encoding.md R41 to R48). -/
def Obligations.DecodeInvertsEncode : Prop :=
  ∀ (i : Instr) (rest : List Byte), i.wellFormed = true → decode (encode i ++ rest) = .ok (i, rest)

/-- Bytes that decode are the encoding of what they decode to, and it is well-formed: no two byte
sequences mean one instruction. -/
def Obligations.EncodeInvertsDecode : Prop :=
  ∀ (bytes rest : List Byte) (i : Instr), decode bytes = .ok (i, rest) →
    i.wellFormed = true ∧ encode i ++ rest = bytes

/-- The first byte alone decides: every byte but the 12 of R52 gives an instruction of exactly the
length R42 lists. Two clauses are the model's choice: the 12 bytes, which R42 gives no length, are
rejected by name (the decoder does so under both values of `UNDEF_OPCODE`, log entry 8), and fewer
bytes than the length are answered `truncated` (the decoder's byte-list interface, log entry 29). -/
def Obligations.OpcodeByteDecidesLength : Prop :=
  ∀ (op : Byte) (rest : List Byte),
    if op ∈ undefinedOpcodes then decode (op :: rest) = .error (.undefinedOpcode op)
    else if rest.length + 1 < opcodeLength op then decode (op :: rest) = .error .truncated
    else ∃ i, decode (op :: rest) = .ok (i, rest.drop (opcodeLength op - 1))

/-- At least one word of each of the 13 formats of R43, written out from its layout, decodes to its
instruction: in the order DS1, OP1, D1, S1, RP1 (both groups), CC1, N1, D2, I2, P2, RP3, A3, CC3. -/
def Obligations.SpecWordsDecode : Prop :=
  decode [0b01000001] = .ok (.mov .b .c, []) ∧
  decode [0b01110110] = .ok (.hlt, []) ∧
  decode [0b00110100] = .ok (.inr .m, []) ∧
  decode [0b10011101] = .ok (.sbb .l, []) ∧
  decode [0b00101001] = .ok (.dad .hl, []) ∧
  decode [0b11110101] = .ok (.push .psw, []) ∧
  decode [0b11011000] = .ok (.rc, []) ∧
  decode [0b11101111] = .ok (.rst 5, []) ∧
  decode [0b00111110, 0x5A] = .ok (.mvi .a 0x5A, []) ∧
  decode [0b11111110, 0x80] = .ok (.cpi 0x80, []) ∧
  decode [0b11010011, 0x10] = .ok (.outPort 0x10, []) ∧
  decode [0b00110001, 0xEF, 0xBE] = .ok (.lxi .sp 0xBEEF, []) ∧
  decode [0b11001101, 0x34, 0x12] = .ok (.call 0x1234, []) ∧
  decode [0b11100100, 0x00, 0x20] = .ok (.cpo 0x2000, [])

/-! ## The step -/

/-- A step runs the decoded instruction: where the bytes at PC, PC + 1, PC + 2 decode to `i`, the
step is `exec i` at that state and nothing else (00_scope.md section 5.4, R4; log entry 27). -/
def Obligations.StepRunsDecodedInstruction : Prop :=
  ∀ (s : State) (i : Instr) (rest : List Byte), s.halted = false →
    decode [s.readByte s.pc, s.readByte (s.pc + 1), s.readByte (s.pc + 2)] = .ok (i, rest) →
    step s = exec i s

/-- A stopped machine stays as it is, for any number of steps (45_control.md R140, 10_state.md R24). -/
def Obligations.StoppedMachineNeverMoves : Prop :=
  ∀ (k : Nat) (s : State), s.halted = true → Sys2Proof.core.run k s = .next s

/-- A step faults exactly where the opcode byte at PC is one of the 12 and `UNDEF_OPCODE = FAULT`,
and reports that address and byte (30_encoding.md R52, decision D7; log entry 8). -/
def Obligations.StepFaultsOnlyOnUndefinedOpcode : Prop :=
  ∀ (s : State) (f : Fault), step s = .fault f ↔
    (s.halted = false ∧ s.params.undefOpcode = .fault ∧ s.readByte s.pc ∈ undefinedOpcodes ∧
      f = .undefinedOpcode s.pc (s.readByte s.pc))

/-- Under `UNDEF_OPCODE = ALIAS_8080` the 12 bytes run as NOP, JMP, RET and CALL, and no step faults
(30_encoding.md R52, decision D7, general knowledge of the 8080; log entries 8, 21). -/
def Obligations.AliasModeRunsTheAliases : Prop :=
  ∀ (s : State), s.halted = false → s.params.undefOpcode = .alias8080 →
    (s.readByte s.pc ∈ ([0x08, 0x10, 0x18, 0x20, 0x28, 0x30, 0x38] : List Byte) →
      step s = exec .nop s) ∧
    (s.readByte s.pc = 0xCB →
      step s = exec (.jmp (s.readByte (s.pc + 2) ++ s.readByte (s.pc + 1))) s) ∧
    (s.readByte s.pc = 0xD9 → step s = exec .ret s) ∧
    (s.readByte s.pc ∈ ([0xDD, 0xED, 0xFD] : List Byte) →
      step s = exec (.call (s.readByte (s.pc + 2) ++ s.readByte (s.pc + 1))) s) ∧
    SafeStep s

/-- No instruction stops: each answers a next state, in every state, well-formed or not, and a step
refuses nothing (60_exceptions.md R146, the spec's decision D15; log entry 28). -/
def Obligations.EveryInstructionCompletes : Prop :=
  (∀ (i : Instr) (s : State), ∃ t, exec i s = .next t ∧ t.params = s.params) ∧
  (∀ (s : State) (r : Refusal), step s ≠ .refused r)

/-! ## Invariants and whole-machine rules -/

/-- Every step keeps memory in its canonical form. -/
def Obligations.StepKeepsMemoryCanonical : Prop :=
  ∀ (s t : State), Memory.wf s.mem = true → step s = .next t → Memory.wf t.mem = true

/-- The canonical form at the start of a run: of the model's own reset state, and of every start
whose `MEM_INIT` has it. -/
def Obligations.ResetMemoryCanonical : Prop :=
  Memory.wf State.reset.mem = true ∧
  ∀ (p : Params) (r : RegInit) (m : Memory), Memory.wf m = true →
    Memory.wf (State.resetWith p r m).mem = true

/-- Memories in canonical form that read alike at every address are the same data. -/
def Obligations.EqualReadsAreEqualMemories : Prop :=
  ∀ (m n : Memory), Memory.wf m = true → Memory.wf n = true →
    (∀ x : Word, Memory.get m x.toNat = Memory.get n x.toNat) → m = n

/-- A byte written is read back, and no other byte changes, at every address (20_memory.md R31, the spec's decision D3;
log entry 26). -/
def Obligations.ByteWriteThenRead : Prop :=
  ∀ (s : State) (x y : Word) (v : Byte),
    (s.writeByte x v).readByte y = (if y = x then v else s.readByte y) ∧
    s.writeByte x v = { s with mem := (s.writeByte x v).mem }

/-- From a running state, a step stops the CPU exactly when the opcode byte it runs is HLT's, 0x76
(70_reset_and_hazards.md R167, the spec's decision D14, log entry 11). -/
def Obligations.OnlyHltStopsTheCpu : Prop :=
  ∀ (s t : State), s.halted = false → step s = .next t →
    (t.halted = true ↔ s.readByte s.pc = 0x76)

/-- INTE is read by nothing (10_state.md R21, the spec's decision D16, log entry 15): two states that differ in INTE
alone take the same step, which differs in INTE alone, and fault alike. -/
def Obligations.InteIsNeverRead : Prop :=
  ∀ (s : State) (b : Bool),
    (∀ t, step s = .next t → ∃ b', step { s with inte := b } = .next { t with inte := b' }) ∧
    (∀ f, step s = .fault f → step { s with inte := b } = .fault f)

/-- From a running state, INTE becomes 1 by EI, 0 by DI, and is kept by every other step
(60_exceptions.md R148, the spec's decision D16, log entry 15). -/
def Obligations.OnlyEiAndDiWriteInte : Prop :=
  ∀ (s t : State), s.halted = false → step s = .next t →
    t.inte = (if s.readByte s.pc = 0xFB then true
      else if s.readByte s.pc = 0xF3 then false else s.inte)

/-- Every instruction changes the flags its column names and no other, `0` and `1` as they say
(00_scope.md R6); POP PSW restores all five from the byte on top of the stack. -/
def Obligations.FlagsChangeByTheirColumnOnly : Prop :=
  (∀ (i : Instr) (s t : State), exec i s = .next t →
    (flagColumn i).Allows s.flags t.flags) ∧
  (∀ s : State, ∃ t, exec (.pop .psw) s = .next t ∧
    t.flags = unpackFlags s.params.pswLayout (s.readByte s.sp))

/-- Every byte of memory outside the bytes an instruction stores to is unchanged; every instruction
that stores to no byte leaves all of memory (20_memory.md R34). -/
def Obligations.OnlyStoredBytesChange : Prop :=
  ∀ (i : Instr) (s t : State), exec i s = .next t →
    (∀ x : Word, x ∉ storedAddresses i s → t.readByte x = s.readByte x) ∧
    (storedAddresses i s = [] → t.mem = s.mem)

/-- The registers A to L and SP change only by the instructions that R27 lists for them, and the
parameters by none (log entry 9). -/
def Obligations.RegistersChangeOnlyAsListed : Prop :=
  ∀ (i : Instr) (s t : State), exec i s = .next t →
    (∀ q, q ≠ .m → q ∉ writtenRegisters i → t.readReg8 q = s.readReg8 q) ∧
    (mayWriteSp i = false → t.sp = s.sp) ∧ t.params = s.params

/-- Outside the branch family, PC moves on by the length of the instruction's encoding, wrapping
(00_scope.md R5, 10_state.md R12). HLT is left out: its PC is the spec's own choice D14, on which
no claim is to rest (45_control.md R140). -/
def Obligations.SequentialInstructionsAdvance : Prop :=
  ∀ (i : Instr) (s t : State), isBranch i = false → i ≠ .hlt → exec i s = .next t →
    t.pc = s.pc + BitVec.ofNat 16 (encode i).length

/-! ## Operands -/

/-- The operand codes select B, C, D, E, H, L, the byte at HL, A (10_state.md R8). -/
def Obligations.OperandCodesSelect : Prop :=
  (∀ s : State, (List.map s.readReg8 [.b, .c, .d, .e, .h, .l, .m, .a]) =
    [s.b, s.c, s.d, s.e, s.h, s.l, s.readByte (s.h ++ s.l), s.a]) ∧
  List.map Reg8.code [.b, .c, .d, .e, .h, .l, .m, .a] = [0, 1, 2, 3, 4, 5, 6, 7] ∧
  (∀ r : Reg8, Reg8.ofCode r.code = r) ∧
  (∀ (s : State) (r : Reg8) (v : Byte),
    WroteOperand r v s (s.writeReg8 r v) ∧ (s.writeReg8 r v).flags = s.flags ∧
      (s.writeReg8 r v).pc = s.pc)

/-! ## Data transfer -/

/-- MOV (40_data_transfer.md R56): the destination gets the source's old value, through HL as it was
before the write, and nothing else but PC changes; 0x76 apart, `01 DDD SSS` encodes it. R56 leaves
out the pair M, M: that `exec` of this ill-formed term moves the byte at HL onto itself is the model's
choice (log entry 22), which the second clause covers too. -/
def Obligations.MovCopiesOperand : Prop :=
  ∀ (dst r : Reg8) (s : State),
    (¬(dst = .m ∧ r = .m) →
      DecodesTo [BitVec.ofNat 8 (0x40 + 8 * dst.code.toNat + r.code.toNat)] (.mov dst r)) ∧
    ∃ t, exec (.mov dst r) s = .next t ∧ WroteOperand dst (s.readReg8 r) s t ∧
      t.flags = s.flags ∧ t.pc = s.pc + 1

/-- MVI (R57). -/
def Obligations.MviLoadsImmediate : Prop :=
  ∀ (dst : Reg8) (d8 : Byte) (s : State),
    DecodesTo [BitVec.ofNat 8 (0x06 + 8 * dst.code.toNat), d8] (.mvi dst d8) ∧
    ∃ t, exec (.mvi dst d8) s = .next t ∧ WroteOperand dst d8 s t ∧
      t.flags = s.flags ∧ t.pc = s.pc + 2

/-- LXI (R58): byte 3 to the high register, byte 2 to the low one. That B and D are the high registers
is the spec's decision D19 (log entry 17). -/
def Obligations.LxiLoadsPair : Prop :=
  ∀ (lo hi : Byte) (s : State),
    (DecodesTo [0x01, lo, hi] (.lxi .bc (hi ++ lo)) ∧
      exec (.lxi .bc (hi ++ lo)) s = .next { s with b := hi, c := lo, pc := s.pc + 3 }) ∧
    (DecodesTo [0x11, lo, hi] (.lxi .de (hi ++ lo)) ∧
      exec (.lxi .de (hi ++ lo)) s = .next { s with d := hi, e := lo, pc := s.pc + 3 }) ∧
    (DecodesTo [0x21, lo, hi] (.lxi .hl (hi ++ lo)) ∧
      exec (.lxi .hl (hi ++ lo)) s = .next { s with h := hi, l := lo, pc := s.pc + 3 }) ∧
    (DecodesTo [0x31, lo, hi] (.lxi .sp (hi ++ lo)) ∧
      exec (.lxi .sp (hi ++ lo)) s = .next { s with sp := hi ++ lo, pc := s.pc + 3 })

/-- LDA and STA (R59, R60): A from and to the byte at a16. -/
def Obligations.LdaStaMoveAccumulator : Prop :=
  ∀ (lo hi : Byte) (s : State),
    (DecodesTo [0x3A, lo, hi] (.lda (hi ++ lo)) ∧
      exec (.lda (hi ++ lo)) s =
        .next { s with a := s.readByte (hi ++ lo), pc := s.pc + 3 }) ∧
    (DecodesTo [0x32, lo, hi] (.sta (hi ++ lo)) ∧
      ∃ t, exec (.sta (hi ++ lo)) s = .next t ∧
        (∀ x, t.readByte x = if x = hi ++ lo then s.a else s.readByte x) ∧
        t = { s with mem := t.mem, pc := s.pc + 3 })

/-- LHLD and SHLD (R61, R62): L with the byte at a16, H with the next, wrapping past 0xFFFF (the
spec's decision D2, log entry 14). -/
def Obligations.LhldShldMovePair : Prop :=
  ∀ (lo hi : Byte) (s : State),
    (DecodesTo [0x2A, lo, hi] (.lhld (hi ++ lo)) ∧
      exec (.lhld (hi ++ lo)) s =
        .next { s with
          l := s.readByte (hi ++ lo)
          h := s.readByte (hi ++ lo + 1)
          pc := s.pc + 3 }) ∧
    (DecodesTo [0x22, lo, hi] (.shld (hi ++ lo)) ∧
      ∃ t, exec (.shld (hi ++ lo)) s = .next t ∧
        (∀ x, t.readByte x =
          if x = hi ++ lo then s.l else if x = hi ++ lo + 1 then s.h else s.readByte x) ∧
        t = { s with mem := t.mem, pc := s.pc + 3 })

/-- LDAX and STAX (R63, R64): A from and to the byte that BC or DE addresses, the pair
unchanged. B and D as the high bytes are the spec's decision D19 (log entry 17). -/
def Obligations.LdaxStaxMoveAccumulator : Prop :=
  ∀ (s : State),
    (DecodesTo [0x0A] (.ldax .bc) ∧
      exec (.ldax .bc) s = .next { s with a := s.readByte (s.b ++ s.c), pc := s.pc + 1 }) ∧
    (DecodesTo [0x1A] (.ldax .de) ∧
      exec (.ldax .de) s = .next { s with a := s.readByte (s.d ++ s.e), pc := s.pc + 1 }) ∧
    (DecodesTo [0x02] (.stax .bc) ∧
      ∃ t, exec (.stax .bc) s = .next t ∧
        (∀ x, t.readByte x = if x = s.b ++ s.c then s.a else s.readByte x) ∧
        t = { s with mem := t.mem, pc := s.pc + 1 }) ∧
    (DecodesTo [0x12] (.stax .de) ∧
      ∃ t, exec (.stax .de) s = .next t ∧
        (∀ x, t.readByte x = if x = s.d ++ s.e then s.a else s.readByte x) ∧
        t = { s with mem := t.mem, pc := s.pc + 1 })

/-- XCHG and SPHL (R65, R67), and two XCHG in a row restore every register. That D pairs with H and E
with L rests on D being the high register of DE, the spec's decision D19 (log entry 17). -/
def Obligations.XchgSphlMovePairs : Prop :=
  ∀ (s : State),
    DecodesTo [0xEB] .xchg ∧
    exec .xchg s = .next { s with d := s.h, e := s.l, h := s.d, l := s.e, pc := s.pc + 1 } ∧
    execSeq [.xchg, .xchg] s = some { s with pc := s.pc + 2 } ∧
    DecodesTo [0xF9] .sphl ∧
    exec .sphl s = .next { s with sp := s.h ++ s.l, pc := s.pc + 1 }

/-- XTHL (R66): HL and the two bytes on top of the stack trade places, SP unchanged, at every SP. The
order of the four accesses (the spec's decision D23) is not observable and not stated. -/
def Obligations.XthlExchangesTopOfStack : Prop :=
  DecodesTo [0xE3] .xthl ∧
  ∀ (s : State), ∃ t, exec .xthl s = .next t ∧
    t.l = s.readByte s.sp ∧ t.h = s.readByte (s.sp + 1) ∧
    (∀ x, t.readByte x =
      if x = s.sp then s.l else if x = s.sp + 1 then s.h else s.readByte x) ∧
    t = { s with h := t.h, l := t.l, mem := t.mem, pc := s.pc + 1 }

/-! ## Arithmetic -/

/-- ADD, ADC, ADI, ACI (41_arithmetic.md R70 to R73): A gets the sum mod 256, CY the carry out of bit
7, AC the carry out of bit 3, S, Z, P from the sum; only A, the flags and PC change; with their
opcodes. The flags are read as the spec's decisions D8, D12 and D26 have them (10_state.md R14 to R18, log entry
20). -/
def Obligations.AdditionsAddAndCarry : Prop :=
  (∀ (r : Reg8), DecodesTo [BitVec.ofNat 8 (0x80 + r.code.toNat)] (.add r) ∧
    DecodesTo [BitVec.ofNat 8 (0x88 + r.code.toNat)] (.adc r)) ∧
  (∀ (d8 : Byte), DecodesTo [0xC6, d8] (.adi d8) ∧ DecodesTo [0xCE, d8] (.aci d8)) ∧
  ∀ (i : Instr) (y : Byte) (c n : Nat) (s : State),
    ((∃ r, i = .add r ∧ y = s.readReg8 r ∧ c = 0 ∧ n = 1) ∨
      (∃ r, i = .adc r ∧ y = s.readReg8 r ∧ c = s.flags.cy.toNat ∧ n = 1) ∨
      (i = .adi y ∧ c = 0 ∧ n = 2) ∨ (i = .aci y ∧ c = s.flags.cy.toNat ∧ n = 2)) →
    ∃ t, exec i s = .next t ∧
      t.a.toNat = (s.a.toNat + y.toNat + c) % 256 ∧
      t.flags.cy = decide (s.a.toNat + y.toNat + c ≥ 256) ∧
      t.flags.ac = decide (s.a.toNat % 16 + y.toNat % 16 + c ≥ 16) ∧
      ResultFlags t.flags t.a ∧
      t = { s with a := t.a, flags := t.flags, pc := s.pc + BitVec.ofNat 16 n }

/-- SUB, SBB, SUI, SBI (R74 to R77): A gets the difference mod 256, CY the borrow of the whole
unsigned subtraction, AC by `AC_SUB`, S, Z, P from the difference; only A, the flags and PC change;
with their opcodes. The flags are read as the spec's decisions D9, D12, D20 and D26 have them (10_state.md R14 to R19,
log entries 5, 20). -/
def Obligations.SubtractionsSubtractAndBorrow : Prop :=
  (∀ (r : Reg8), DecodesTo [BitVec.ofNat 8 (0x90 + r.code.toNat)] (.sub r) ∧
    DecodesTo [BitVec.ofNat 8 (0x98 + r.code.toNat)] (.sbb r)) ∧
  (∀ (d8 : Byte), DecodesTo [0xD6, d8] (.sui d8) ∧ DecodesTo [0xDE, d8] (.sbi d8)) ∧
  ∀ (i : Instr) (y : Byte) (c n : Nat) (s : State),
    ((∃ r, i = .sub r ∧ y = s.readReg8 r ∧ c = 0 ∧ n = 1) ∨
      (∃ r, i = .sbb r ∧ y = s.readReg8 r ∧ c = s.flags.cy.toNat ∧ n = 1) ∨
      (i = .sui y ∧ c = 0 ∧ n = 2) ∨ (i = .sbi y ∧ c = s.flags.cy.toNat ∧ n = 2)) →
    ∃ t, exec i s = .next t ∧
      (t.a.toNat + y.toNat + c) % 256 = s.a.toNat ∧
      t.flags.cy = decide (s.a.toNat < y.toNat + c) ∧
      (s.params.acSub = .noBorrow →
        t.flags.ac = decide (y.toNat % 16 + c ≤ s.a.toNat % 16)) ∧
      (s.params.acSub = .borrow →
        t.flags.ac = decide (s.a.toNat % 16 < y.toNat % 16 + c)) ∧
      ResultFlags t.flags t.a ∧
      t = { s with a := t.a, flags := t.flags, pc := s.pc + BitVec.ofNat 16 n }

/-- INR (R78): the operand gets its value plus 1 mod 256, S, Z, P from it, AC exactly when the low
digit was 0xF, CY kept; nothing else but PC changes. S, Z, P, AC as the spec's
decisions D8 and D26 have them (log entry 20). -/
def Obligations.InrAddsOneKeepingCarry : Prop :=
  ∀ (r : Reg8) (s : State),
    DecodesTo [BitVec.ofNat 8 (0x04 + 8 * r.code.toNat)] (.inr r) ∧
    ∃ t v, exec (.inr r) s = .next t ∧ WroteOperand r v s t ∧
      v.toNat = ((s.readReg8 r).toNat + 1) % 256 ∧ ResultFlags t.flags v ∧
      t.flags.ac = decide ((s.readReg8 r).toNat % 16 = 15) ∧ t.flags.cy = s.flags.cy ∧
      t.pc = s.pc + 1

/-- DCR (R79): the operand gets its value minus 1 mod 256, S, Z, P from it, AC by `AC_SUB` and
whether the low digit was 0, CY kept; nothing else but PC changes. The flags
as the spec's decisions D9 and D26 have them (log entries 5, 20). -/
def Obligations.DcrSubtractsOneKeepingCarry : Prop :=
  ∀ (r : Reg8) (s : State),
    DecodesTo [BitVec.ofNat 8 (0x05 + 8 * r.code.toNat)] (.dcr r) ∧
    ∃ t v, exec (.dcr r) s = .next t ∧ WroteOperand r v s t ∧
      (v.toNat + 1) % 256 = (s.readReg8 r).toNat ∧ ResultFlags t.flags v ∧
      (s.params.acSub = .noBorrow →
        t.flags.ac = decide ((s.readReg8 r).toNat % 16 ≠ 0)) ∧
      (s.params.acSub = .borrow →
        t.flags.ac = decide ((s.readReg8 r).toNat % 16 = 0)) ∧
      t.flags.cy = s.flags.cy ∧ t.pc = s.pc + 1

/-- INX and DCX (R80, R81): the pair or SP plus or minus 1 mod 65536, no flag, nothing else but PC.
The wrap is the spec's decision D2, B and D as high bytes its decision D19 (log entries 14, 17). -/
def Obligations.InxDcxCountPairs : Prop :=
  (DecodesTo [0x03] (.inx .bc) ∧ DecodesTo [0x13] (.inx .de) ∧ DecodesTo [0x23] (.inx .hl) ∧
    DecodesTo [0x33] (.inx .sp) ∧ DecodesTo [0x0B] (.dcx .bc) ∧ DecodesTo [0x1B] (.dcx .de) ∧
    DecodesTo [0x2B] (.dcx .hl) ∧ DecodesTo [0x3B] (.dcx .sp)) ∧
  ∀ (s : State),
    (∃ t, exec (.inx .bc) s = .next t ∧
      (t.b ++ t.c).toNat = ((s.b ++ s.c).toNat + 1) % 65536 ∧
      t = { s with b := t.b, c := t.c, pc := s.pc + 1 }) ∧
    (∃ t, exec (.inx .de) s = .next t ∧
      (t.d ++ t.e).toNat = ((s.d ++ s.e).toNat + 1) % 65536 ∧
      t = { s with d := t.d, e := t.e, pc := s.pc + 1 }) ∧
    (∃ t, exec (.inx .hl) s = .next t ∧
      (t.h ++ t.l).toNat = ((s.h ++ s.l).toNat + 1) % 65536 ∧
      t = { s with h := t.h, l := t.l, pc := s.pc + 1 }) ∧
    (∃ t, exec (.inx .sp) s = .next t ∧ t.sp.toNat = (s.sp.toNat + 1) % 65536 ∧
      t = { s with sp := t.sp, pc := s.pc + 1 }) ∧
    (∃ t, exec (.dcx .bc) s = .next t ∧
      ((t.b ++ t.c).toNat + 1) % 65536 = (s.b ++ s.c).toNat ∧
      t = { s with b := t.b, c := t.c, pc := s.pc + 1 }) ∧
    (∃ t, exec (.dcx .de) s = .next t ∧
      ((t.d ++ t.e).toNat + 1) % 65536 = (s.d ++ s.e).toNat ∧
      t = { s with d := t.d, e := t.e, pc := s.pc + 1 }) ∧
    (∃ t, exec (.dcx .hl) s = .next t ∧
      ((t.h ++ t.l).toNat + 1) % 65536 = (s.h ++ s.l).toNat ∧
      t = { s with h := t.h, l := t.l, pc := s.pc + 1 }) ∧
    (∃ t, exec (.dcx .sp) s = .next t ∧ (t.sp.toNat + 1) % 65536 = s.sp.toNat ∧
      t = { s with sp := t.sp, pc := s.pc + 1 })

/-- DAD (R82): HL gets HL plus the pair mod 65536, CY the carry out of bit 15 (the spec's decision
D12, log entry 20), the other flags kept; nothing else but PC changes; with its opcodes. B and D are high bytes by its
decision D19 (log entry 17). -/
def Obligations.DadAddsSixteenBits : Prop :=
  (DecodesTo [0x09] (.dad .bc) ∧ DecodesTo [0x19] (.dad .de) ∧ DecodesTo [0x29] (.dad .hl) ∧
    DecodesTo [0x39] (.dad .sp)) ∧
  ∀ (rp : Rp) (y : Word) (s : State),
    ((rp = .bc ∧ y = s.b ++ s.c) ∨ (rp = .de ∧ y = s.d ++ s.e) ∨
      (rp = .hl ∧ y = s.h ++ s.l) ∨ (rp = .sp ∧ y = s.sp)) →
    ∃ t, exec (.dad rp) s = .next t ∧
      (t.h ++ t.l).toNat + 65536 * t.flags.cy.toNat = (s.h ++ s.l).toNat + y.toNat ∧
      t = { s with
        h := t.h
        l := t.l
        flags := { s.flags with cy := t.flags.cy }
        pc := s.pc + 1 }

/-- DAA (R83): A and the five flags are what `DAA_FN` answers for A, AC and CY, nothing else but PC
changes; a run without rows has the default, and a row replaces the default for its inputs (the
model's form of the open `DAA_FN`, log entry 6). -/
def Obligations.DaaAppliesItsFunction : Prop :=
  DecodesTo [0x27] .daa ∧
  (∀ (s : State), exec .daa s = .next { s with
    a := (daaFn s.params.daaTable s.a s.flags.ac s.flags.cy).1,
    flags := (daaFn s.params.daaTable s.a s.flags.ac s.flags.cy).2, pc := s.pc + 1 }) ∧
  (∀ (a : Byte) (ac cy : Bool), daaFn [] a ac cy = daaStandard a ac cy) ∧
  (∀ (row : DaaRow) (rest : List DaaRow) (a : Byte) (ac cy : Bool),
    daaFn (row :: rest) a ac cy =
      if row.aIn = a ∧ row.acIn = ac ∧ row.cyIn = cy then (row.aOut, row.flagsOut)
      else daaFn rest a ac cy)

/-- DAA under the default `DAA_FN` (R85, the spec's decision D10): the correction, that CY is never
cleared, and AC exactly when the low digit was above 9 (log entry 6). -/
def Obligations.DefaultDaaAdjusts : Prop :=
  ∀ (s : State), s.params.daaTable = [] →
    ∃ t, exec .daa s = .next t ∧
      t.a.toNat = (s.a.toNat + (if s.a.toNat % 16 > 9 ∨ s.flags.ac = true then 6 else 0) +
        (if t.flags.cy = true then 96 else 0)) % 256 ∧
      (t.flags.cy = true ↔ s.flags.cy = true ∨ s.a.toNat > 0x99) ∧
      t.flags.ac = decide (s.a.toNat % 16 > 9) ∧ ResultFlags t.flags t.a ∧
      t = { s with a := t.a, flags := t.flags, pc := s.pc + 1 }

/-- DAA after ADD, ADC, ADI or ACI of two packed-BCD bytes (R84) leaves the decimal sum mod 100 in A
and the decimal carry in CY. Under the default `DAA_FN`, the spec's decision D10 (log entry 6). -/
def Obligations.DaaMakesDecimalSums : Prop :=
  ∀ (x y c : Nat) (i : Instr) (s : State), x < 100 → y < 100 → s.a = bcdByte x →
    s.params.daaTable = [] →
    ((∃ r, i = .add r ∧ s.readReg8 r = bcdByte y ∧ c = 0) ∨
      (∃ r, i = .adc r ∧ s.readReg8 r = bcdByte y ∧ c = s.flags.cy.toNat) ∨
      (i = .adi (bcdByte y) ∧ c = 0) ∨ (i = .aci (bcdByte y) ∧ c = s.flags.cy.toNat)) →
    ∃ t, execSeq [i, .daa] s = some t ∧ t.a = bcdByte ((x + y + c) % 100) ∧
      t.flags.cy = decide (x + y + c ≥ 100)

/-! ## Logical -/

/-- ANA, XRA, ORA and ANI, XRI, ORI (42_logical.md R87 to R89, R91 to R93): the bitwise operation
into A, S, Z, P from the result, AC set by the ANDs and cleared by the others, CY cleared; only A,
the flags and PC change. S, Z, P as the spec's decision D26 has them (log entry 20). -/
def Obligations.LogicalOperations : Prop :=
  (∀ (r : Reg8), DecodesTo [BitVec.ofNat 8 (0xA0 + r.code.toNat)] (.ana r) ∧
    DecodesTo [BitVec.ofNat 8 (0xA8 + r.code.toNat)] (.xra r) ∧
    DecodesTo [BitVec.ofNat 8 (0xB0 + r.code.toNat)] (.ora r)) ∧
  (∀ (d8 : Byte), DecodesTo [0xE6, d8] (.ani d8) ∧ DecodesTo [0xEE, d8] (.xri d8) ∧
    DecodesTo [0xF6, d8] (.ori d8)) ∧
  ∀ (i : Instr) (v : Byte) (ac : Bool) (n : Nat) (s : State),
    ((∃ r, i = .ana r ∧ v = s.a &&& s.readReg8 r ∧ ac = true ∧ n = 1) ∨
      (∃ r, i = .xra r ∧ v = s.a ^^^ s.readReg8 r ∧ ac = false ∧ n = 1) ∨
      (∃ r, i = .ora r ∧ v = s.a ||| s.readReg8 r ∧ ac = false ∧ n = 1) ∨
      (∃ d8, i = .ani d8 ∧ v = s.a &&& d8 ∧ ac = true ∧ n = 2) ∨
      (∃ d8, i = .xri d8 ∧ v = s.a ^^^ d8 ∧ ac = false ∧ n = 2) ∨
      (∃ d8, i = .ori d8 ∧ v = s.a ||| d8 ∧ ac = false ∧ n = 2)) →
    ∃ t, exec i s = .next t ∧ t.a = v ∧ ResultFlags t.flags v ∧ t.flags.ac = ac ∧
      t.flags.cy = false ∧
      t = { s with a := v, flags := t.flags, pc := s.pc + BitVec.ofNat 16 n }

/-- CMP and CPI (R90, R94): Z says A equals the operand, CY that A is below it as an unsigned number,
S and P describe the discarded difference, AC is by `AC_SUB`; only the flags and PC change; with
their opcodes. The flags as the spec's decisions D9, D20 and D26 have them (log entries 5, 20). -/
def Obligations.ComparesSetFlagsOnly : Prop :=
  (∀ (r : Reg8), DecodesTo [BitVec.ofNat 8 (0xB8 + r.code.toNat)] (.cmp r)) ∧
  (∀ (d8 : Byte), DecodesTo [0xFE, d8] (.cpi d8)) ∧
  ∀ (i : Instr) (y : Byte) (n : Nat) (s : State),
    ((∃ r, i = .cmp r ∧ y = s.readReg8 r ∧ n = 1) ∨ (i = .cpi y ∧ n = 2)) →
    ∃ t, exec i s = .next t ∧
      t.flags.z = decide (s.a = y) ∧ t.flags.cy = decide (s.a.toNat < y.toNat) ∧
      ResultFlags t.flags (s.a - y) ∧
      (s.params.acSub = .noBorrow → t.flags.ac = decide (y.toNat % 16 ≤ s.a.toNat % 16)) ∧
      (s.params.acSub = .borrow → t.flags.ac = decide (s.a.toNat % 16 < y.toNat % 16)) ∧
      t = { s with flags := t.flags, pc := s.pc + BitVec.ofNat 16 n }

/-- RLC, RRC, RAL, RAR (R95 to R98), by the number that A is, and what repeating them restores: only
A, CY and PC change. -/
def Obligations.RotatesMoveOneBit : Prop :=
  (DecodesTo [0x07] .rlc ∧ DecodesTo [0x0F] .rrc ∧ DecodesTo [0x17] .ral ∧
    DecodesTo [0x1F] .rar) ∧
  ∀ (s : State),
    (∃ t, exec .rlc s = .next t ∧ t.a.toNat = s.a.toNat * 2 % 256 + s.a.toNat / 128 ∧
      t.flags = { s.flags with cy := s.a.getLsbD 7 } ∧
      t = { s with a := t.a, flags := t.flags, pc := s.pc + 1 }) ∧
    (∃ t, exec .rrc s = .next t ∧ t.a.toNat = s.a.toNat / 2 + 128 * (s.a.toNat % 2) ∧
      t.flags = { s.flags with cy := s.a.getLsbD 0 } ∧
      t = { s with a := t.a, flags := t.flags, pc := s.pc + 1 }) ∧
    (∃ t, exec .ral s = .next t ∧
      t.a.toNat = s.a.toNat * 2 % 256 + s.flags.cy.toNat ∧
      t.flags = { s.flags with cy := s.a.getLsbD 7 } ∧
      t = { s with a := t.a, flags := t.flags, pc := s.pc + 1 }) ∧
    (∃ t, exec .rar s = .next t ∧
      t.a.toNat = s.a.toNat / 2 + 128 * s.flags.cy.toNat ∧
      t.flags = { s.flags with cy := s.a.getLsbD 0 } ∧
      t = { s with a := t.a, flags := t.flags, pc := s.pc + 1 }) ∧
    (∃ t, execSeq (List.replicate 8 .rlc) s = some t ∧ t.a = s.a) ∧
    execSeq (List.replicate 9 .ral) s = some { s with pc := s.pc + 9 }

/-- CMA, STC, CMC (R99 to R101). -/
def Obligations.ComplementAndCarry : Prop :=
  (DecodesTo [0x2F] .cma ∧ DecodesTo [0x37] .stc ∧ DecodesTo [0x3F] .cmc) ∧
  ∀ (s : State),
    exec .cma s = .next { s with a := 255 - s.a, pc := s.pc + 1 } ∧
    exec .stc s = .next { s with flags := { s.flags with cy := true }, pc := s.pc + 1 } ∧
    exec .cmc s = .next { s with flags := { s.flags with cy := !s.flags.cy }, pc := s.pc + 1 }

/-! ## Branch -/

/-- The eight conditions (43_branch.md R102). -/
def Obligations.ConditionTable : Prop :=
  ∀ (f : Flags),
    (condHolds .nz f = true ↔ f.z = false) ∧ (condHolds .z f = true ↔ f.z = true) ∧
    (condHolds .nc f = true ↔ f.cy = false) ∧ (condHolds .c f = true ↔ f.cy = true) ∧
    (condHolds .po f = true ↔ f.p = false) ∧ (condHolds .pe f = true ↔ f.p = true) ∧
    (condHolds .p f = true ↔ f.s = false) ∧ (condHolds .m f = true ↔ f.s = true) ∧
    List.map Cond.ofCode [0, 1, 2, 3, 4, 5, 6, 7] = [.nz, .z, .nc, .c, .po, .pe, .p, .m]

/-- JMP and PCHL (R103, R131) write PC alone. -/
def Obligations.JumpsWritePc : Prop :=
  ∀ (lo hi : Byte) (s : State),
    DecodesTo [0xC3, lo, hi] (.jmp (hi ++ lo)) ∧
    exec (.jmp (hi ++ lo)) s = .next { s with pc := hi ++ lo } ∧
    DecodesTo [0xE9] .pchl ∧ exec .pchl s = .next { s with pc := s.h ++ s.l }

/-- The eight conditional jumps (R104 to R111): to a16 on their condition, else to `pc + 3`; PC alone
changes. -/
def Obligations.ConditionalJumps : Prop :=
  ∀ (lo hi : Byte) (s : State),
    (DecodesTo [0xC2, lo, hi] (.jnz (hi ++ lo)) ∧ exec (.jnz (hi ++ lo)) s =
      .next { s with pc := if s.flags.z = false then hi ++ lo else s.pc + 3 }) ∧
    (DecodesTo [0xCA, lo, hi] (.jz (hi ++ lo)) ∧ exec (.jz (hi ++ lo)) s =
      .next { s with pc := if s.flags.z = true then hi ++ lo else s.pc + 3 }) ∧
    (DecodesTo [0xD2, lo, hi] (.jnc (hi ++ lo)) ∧ exec (.jnc (hi ++ lo)) s =
      .next { s with pc := if s.flags.cy = false then hi ++ lo else s.pc + 3 }) ∧
    (DecodesTo [0xDA, lo, hi] (.jc (hi ++ lo)) ∧ exec (.jc (hi ++ lo)) s =
      .next { s with pc := if s.flags.cy = true then hi ++ lo else s.pc + 3 }) ∧
    (DecodesTo [0xE2, lo, hi] (.jpo (hi ++ lo)) ∧ exec (.jpo (hi ++ lo)) s =
      .next { s with pc := if s.flags.p = false then hi ++ lo else s.pc + 3 }) ∧
    (DecodesTo [0xEA, lo, hi] (.jpe (hi ++ lo)) ∧ exec (.jpe (hi ++ lo)) s =
      .next { s with pc := if s.flags.p = true then hi ++ lo else s.pc + 3 }) ∧
    (DecodesTo [0xF2, lo, hi] (.jp (hi ++ lo)) ∧ exec (.jp (hi ++ lo)) s =
      .next { s with pc := if s.flags.s = false then hi ++ lo else s.pc + 3 }) ∧
    (DecodesTo [0xFA, lo, hi] (.jm (hi ++ lo)) ∧ exec (.jm (hi ++ lo)) s =
      .next { s with pc := if s.flags.s = true then hi ++ lo else s.pc + 3 })

/-- CALL (R112): `pc + 3` goes on the stack, its low byte at the new SP, its high byte above, and PC
to a16; no other byte and no other register changes, at every SP. The byte order of a return address
is the spec's decision D22 (log entry 25), the wrap of SP its decision D2 (log entry 14). -/
def Obligations.CallPushesReturnAddress : Prop :=
  ∀ (lo hi : Byte) (s : State), DecodesTo [0xCD, lo, hi] (.call (hi ++ lo)) ∧
    ∃ t, exec (.call (hi ++ lo)) s = .next t ∧
      t.readByte (s.sp - 1) ++ t.readByte (s.sp - 2) = s.pc + 3 ∧
      (∀ x, x ≠ s.sp - 1 → x ≠ s.sp - 2 → t.readByte x = s.readByte x) ∧
      t = { s with sp := s.sp - 2, mem := t.mem, pc := hi ++ lo }

/-- The eight conditional calls (R113 to R120): exactly CALL on their condition, else PC alone goes
to `pc + 3`. Byte order and wrap as in CALL (decisions D22, D2). -/
def Obligations.ConditionalCalls : Prop :=
  ∀ (lo hi : Byte) (s : State),
    (DecodesTo [0xC4, lo, hi] (.cnz (hi ++ lo)) ∧ DecodesTo [0xCC, lo, hi] (.cz (hi ++ lo)) ∧
      DecodesTo [0xD4, lo, hi] (.cnc (hi ++ lo)) ∧ DecodesTo [0xDC, lo, hi] (.cc (hi ++ lo)) ∧
      DecodesTo [0xE4, lo, hi] (.cpo (hi ++ lo)) ∧ DecodesTo [0xEC, lo, hi] (.cpe (hi ++ lo)) ∧
      DecodesTo [0xF4, lo, hi] (.cp (hi ++ lo)) ∧ DecodesTo [0xFC, lo, hi] (.cm (hi ++ lo))) ∧
    ∀ (i : Instr) (taken : Prop),
      ((i = .cnz (hi ++ lo) ∧ (taken ↔ s.flags.z = false)) ∨
        (i = .cz (hi ++ lo) ∧ (taken ↔ s.flags.z = true)) ∨
        (i = .cnc (hi ++ lo) ∧ (taken ↔ s.flags.cy = false)) ∨
        (i = .cc (hi ++ lo) ∧ (taken ↔ s.flags.cy = true)) ∨
        (i = .cpo (hi ++ lo) ∧ (taken ↔ s.flags.p = false)) ∨
        (i = .cpe (hi ++ lo) ∧ (taken ↔ s.flags.p = true)) ∨
        (i = .cp (hi ++ lo) ∧ (taken ↔ s.flags.s = false)) ∨
        (i = .cm (hi ++ lo) ∧ (taken ↔ s.flags.s = true))) →
      ∃ t, exec i s = .next t ∧
        (taken → t.readByte (s.sp - 1) ++ t.readByte (s.sp - 2) = s.pc + 3 ∧
          (∀ x, x ≠ s.sp - 1 → x ≠ s.sp - 2 → t.readByte x = s.readByte x) ∧
          t = { s with sp := s.sp - 2, mem := t.mem, pc := hi ++ lo }) ∧
        (¬taken → t = { s with pc := s.pc + 3 })

/-- RET and the eight conditional returns (R121 to R129): PC from the two bytes on top of the stack
and SP up by 2, RET always, the others on their condition, else PC alone goes to `pc + 1`. The byte
order is the spec's decision D22 (log entry 25), the wrap of SP its decision D2. -/
def Obligations.ReturnsPopPc : Prop :=
  (DecodesTo [0xC9] .ret ∧ DecodesTo [0xC0] .rnz ∧ DecodesTo [0xC8] .rz ∧
    DecodesTo [0xD0] .rnc ∧ DecodesTo [0xD8] .rc ∧ DecodesTo [0xE0] .rpo ∧
    DecodesTo [0xE8] .rpe ∧ DecodesTo [0xF0] .rp ∧ DecodesTo [0xF8] .rm) ∧
  ∀ (i : Instr) (taken : Prop) (s : State),
    ((i = .ret ∧ (taken ↔ True)) ∨
      (i = .rnz ∧ (taken ↔ s.flags.z = false)) ∨ (i = .rz ∧ (taken ↔ s.flags.z = true)) ∨
      (i = .rnc ∧ (taken ↔ s.flags.cy = false)) ∨ (i = .rc ∧ (taken ↔ s.flags.cy = true)) ∨
      (i = .rpo ∧ (taken ↔ s.flags.p = false)) ∨ (i = .rpe ∧ (taken ↔ s.flags.p = true)) ∨
      (i = .rp ∧ (taken ↔ s.flags.s = false)) ∨ (i = .rm ∧ (taken ↔ s.flags.s = true))) →
    ∃ t, exec i s = .next t ∧
      (taken → t = { s with pc := s.readByte (s.sp + 1) ++ s.readByte s.sp, sp := s.sp + 2 }) ∧
      (¬taken → t = { s with pc := s.pc + 1 })

/-- RST n (R130): `pc + 1` goes on the stack and PC to `n * 8`; no other byte and no other register
changes, INTE included. Byte order and wrap as in CALL (decisions D22, D2). -/
def Obligations.RstCallsFixedAddress : Prop :=
  ∀ (n : BitVec 3) (s : State),
    DecodesTo [BitVec.ofNat 8 (0xC7 + 8 * n.toNat)] (.rst n) ∧
    ∃ t, exec (.rst n) s = .next t ∧ t.pc.toNat = 8 * n.toNat ∧
      t.readByte (s.sp - 1) ++ t.readByte (s.sp - 2) = s.pc + 1 ∧
      (∀ x, x ≠ s.sp - 1 → x ≠ s.sp - 2 → t.readByte x = s.readByte x) ∧
      t = { s with sp := s.sp - 2, mem := t.mem, pc := t.pc }

/-- A CALL and then a RET come back to the next instruction with SP and every register as before;
memory differs at most in the two bytes below the old SP (R133). -/
def Obligations.CallThenRetComesBack : Prop :=
  ∀ (target : Word) (s : State),
    ∃ t, execSeq [.call target, .ret] s = some t ∧
      (∀ x, x ≠ s.sp - 1 → x ≠ s.sp - 2 → t.readByte x = s.readByte x) ∧
      t = { s with mem := t.mem, pc := s.pc + 3 }

/-! ## Stack -/

/-- `push16` and `pop16` (44_stack.md R134, R135): where the two bytes land, what SP becomes, that
nothing else changes, and that a pop after a push gives the value back and restores SP, at every SP
(the wrap is the spec's decision D2, log entry 14). -/
def Obligations.PushSixteenPopSixteen : Prop :=
  ∀ (v : Word) (s : State),
    (s.push16 v).readByte (s.sp - 1) ++ (s.push16 v).readByte (s.sp - 2) = v ∧
    (∀ x, x ≠ s.sp - 1 → x ≠ s.sp - 2 → (s.push16 v).readByte x = s.readByte x) ∧
    s.push16 v = { s with sp := s.sp - 2, mem := (s.push16 v).mem } ∧
    s.topOfStack = s.readByte (s.sp + 1) ++ s.readByte s.sp ∧
    s.dropTop = { s with sp := s.sp + 2 } ∧
    (s.push16 v).topOfStack = v ∧ (s.push16 v).dropTop.sp = s.sp

/-- PUSH (R136): the pair, or A and the flag byte, goes on the stack; no register but SP and PC
changes. The flag byte is the view F of 10_state.md R20 under the run's layout, with the bits of
R20 under the default layout (the spec's decision D11, log entry 7); B and D are high bytes by its
decision D19 (log entry 17). -/
def Obligations.PushStoresPair : Prop :=
  (DecodesTo [0xC5] (.push .bc) ∧ DecodesTo [0xD5] (.push .de) ∧ DecodesTo [0xE5] (.push .hl) ∧
    DecodesTo [0xF5] (.push .psw)) ∧
  ∀ (rp : StackRp) (hi lo : Byte) (s : State),
    ((rp = .bc ∧ hi = s.b ∧ lo = s.c) ∨ (rp = .de ∧ hi = s.d ∧ lo = s.e) ∨
      (rp = .hl ∧ hi = s.h ∧ lo = s.l) ∨
      (rp = .psw ∧ hi = s.a ∧ lo = packFlags s.params.pswLayout s.flags)) →
    (s.params.pswLayout = PswLayout.standard → rp = .psw →
      lo.toNat = 128 * s.flags.s.toNat + 64 * s.flags.z.toNat + 16 * s.flags.ac.toNat +
        4 * s.flags.p.toNat + 2 + s.flags.cy.toNat) ∧
    ∃ t, exec (.push rp) s = .next t ∧
      (∀ x, t.readByte x =
        if x = s.sp - 1 then hi else if x = s.sp - 2 then lo else s.readByte x) ∧
      t = { s with sp := s.sp - 2, mem := t.mem, pc := s.pc + 1 }

/-- POP (R137): the two bytes on top of the stack go to the pair, low byte first, or to the flags and
A; SP goes up by 2, memory is unchanged. The flags come from the bits of the run's layout (decision
D11, log entry 7); B and D are high bytes by decision D19. -/
def Obligations.PopLoadsPair : Prop :=
  (DecodesTo [0xC1] (.pop .bc) ∧ DecodesTo [0xD1] (.pop .de) ∧ DecodesTo [0xE1] (.pop .hl) ∧
    DecodesTo [0xF1] (.pop .psw)) ∧
  ∀ (s : State),
    exec (.pop .bc) s = .next { s with
      b := s.readByte (s.sp + 1)
      c := s.readByte s.sp
      sp := s.sp + 2
      pc := s.pc + 1 } ∧
    exec (.pop .de) s = .next { s with
      d := s.readByte (s.sp + 1)
      e := s.readByte s.sp
      sp := s.sp + 2
      pc := s.pc + 1 } ∧
    exec (.pop .hl) s = .next { s with
      h := s.readByte (s.sp + 1)
      l := s.readByte s.sp
      sp := s.sp + 2
      pc := s.pc + 1 } ∧
    exec (.pop .psw) s = .next { s with
      a := s.readByte (s.sp + 1)
      flags := { s := (s.readByte s.sp).getLsbD s.params.pswLayout.s.val
                 z := (s.readByte s.sp).getLsbD s.params.pswLayout.z.val
                 ac := (s.readByte s.sp).getLsbD s.params.pswLayout.ac.val
                 p := (s.readByte s.sp).getLsbD s.params.pswLayout.p.val
                 cy := (s.readByte s.sp).getLsbD s.params.pswLayout.cy.val }
      sp := s.sp + 2
      pc := s.pc + 1 }

/-- PUSH PSW, then any change of A and the flags, then POP PSW restores A and all five flags, under
every layout that gives each flag a bit of its own (R137; decision D11). -/
def Obligations.PswRoundTrip : Prop :=
  ∀ (s u : State) (a : Byte) (f : Flags), s.params.pswLayout.wf = true →
    exec (.push .psw) s = .next u →
    ∃ t, exec (.pop .psw) { u with a := a, flags := f } = .next t ∧
      t.a = s.a ∧ t.flags = s.flags ∧ t.sp = s.sp

/-- POP PSW and then PUSH PSW writes the popped low byte back with its bits 5, 3, 1 as 0, 0, 1, under
the default layout (R137; decision D11), and every other byte of memory as before. -/
def Obligations.PswKeepsOnlyFlagBits : Prop :=
  ∀ (s : State), s.params.pswLayout = PswLayout.standard →
    ∃ t, execSeq [.pop .psw, .push .psw] s = some t ∧ t.sp = s.sp ∧
      (∀ x, t.readByte x = if x = s.sp then (s.readByte s.sp &&& 0xD5) ||| 0x02
        else s.readByte x)

/-! ## Control, input/output, reset -/

/-- NOP, EI, DI (45_control.md R139, R141, R142). INTE is kept as the spec's decision D16 says (log
entry 15). -/
def Obligations.NopAndInterruptEnable : Prop :=
  (DecodesTo [0x00] .nop ∧ DecodesTo [0xFB] .ei ∧ DecodesTo [0xF3] .di) ∧
  ∀ (s : State),
    exec .nop s = .next { s with pc := s.pc + 1 } ∧
    exec .ei s = .next { s with inte := true, pc := s.pc + 1 } ∧
    exec .di s = .next { s with inte := false, pc := s.pc + 1 }

/-- HLT (R140) stops the CPU and changes nothing else; what PC holds then is the spec's own choice
D14 (log entry 11) and is not stated. -/
def Obligations.HltStopsTheCpu : Prop :=
  DecodesTo [0x76] .hlt ∧
  ∀ (s : State), ∃ t, exec .hlt s = .next t ∧ t = { s with halted := true, pc := t.pc }

/-- OUT changes PC alone and IN loads 0xFF, whatever the port, A and earlier OUTs (46_io.md R144,
R145). That the source's notes win over its port formulas is the spec's decision D18 (90_conflicts.md
C3; log entry 18). -/
def Obligations.PortsAreVoid : Prop :=
  ∀ (port : Byte) (s : State),
    DecodesTo [0xD3, port] (.outPort port) ∧
    exec (.outPort port) s = .next { s with pc := s.pc + 2 } ∧
    DecodesTo [0xDB, port] (.inPort port) ∧
    exec (.inPort port) s = .next { s with a := 0xFF, pc := s.pc + 2 }

/-- The start of a run: PC 0x0000, INTE 0, not stopped, as the spec decides (D13; log entry 4); the
registers, flags and memory are the arguments `REG_INIT` and `MEM_INIT`. -/
def Obligations.ResetLeaves : Prop :=
  ∀ (p : Params) (r : RegInit) (m : Memory),
    State.resetWith p r m =
      { a := r.a, b := r.b, c := r.c, d := r.d, e := r.e, h := r.h, l := r.l, sp := r.sp,
        pc := 0x0000, flags := r.flags, inte := false, halted := false, mem := m, params := p }
end

