-- ==== Sys2Proof/Laws/Flags.lean ====
section
/-! SUPPORT. What each flag computation leaves in each flag (10_state.md section 4). -/

namespace Sys2Proof.Machine

@[simp] theorem setSZP_ac (f : Flags) (v : Byte) : (setSZP f v).ac = f.ac := rfl
@[simp] theorem setSZP_cy (f : Flags) (v : Byte) : (setSZP f v).cy = f.cy := rfl
@[simp] theorem setSZP_s (f : Flags) (v : Byte) : (setSZP f v).s = v.getLsbD 7 := rfl
@[simp] theorem setSZP_z (f : Flags) (v : Byte) : (setSZP f v).z = (v == 0x00) := rfl
@[simp] theorem setSZP_p (f : Flags) (v : Byte) : (setSZP f v).p = parityEven v := rfl

@[simp] theorem arithFlags_cy (f : Flags) (r : AluOut) : (arithFlags f r).cy = r.cy := rfl
@[simp] theorem arithFlags_ac (f : Flags) (r : AluOut) : (arithFlags f r).ac = r.ac := rfl
@[simp] theorem stepFlags_cy (f : Flags) (r : AluOut) : (stepFlags f r).cy = f.cy := rfl
@[simp] theorem stepFlags_ac (f : Flags) (r : AluOut) : (stepFlags f r).ac = r.ac := rfl
@[simp] theorem logicFlags_cy (f : Flags) (v : Byte) (ac : Bool) :
    (logicFlags f v ac).cy = false := rfl
@[simp] theorem logicFlags_ac (f : Flags) (v : Byte) (ac : Bool) :
    (logicFlags f v ac).ac = ac := rfl

/-- The arithmetic flags do not depend on the old ones. -/
theorem arithFlags_eq (f g : Flags) (r : AluOut) : arithFlags f r = arithFlags g r := rfl

/-- The logical flags do not depend on the old ones. -/
theorem logicFlags_eq (f g : Flags) (v : Byte) (ac : Bool) :
    logicFlags f v ac = logicFlags g v ac := rfl

/-- An 8-bit sum and its carry are the exact sum. -/
theorem add8_exact (a b : Byte) (cin : Bool) :
    (add8 a b cin).res.toNat + 256 * (add8 a b cin).cy.toNat = a.toNat + b.toNat + cin.toNat := by
  have ha := a.isLt
  have hb := b.isLt
  have hc := Bool.toNat_le cin
  by_cases h : a.toNat + b.toNat + cin.toNat > 255
  · simp only [add8, BitVec.toNat_ofNat, h, decide_true, Bool.toNat_true]
    omega
  · simp only [add8, BitVec.toNat_ofNat, h, decide_false, Bool.toNat_false]
    omega

/-- An 8-bit difference and its borrow are the exact difference. -/
theorem sub8_exact (conv : AcSub) (a b : Byte) (bin : Bool) :
    ((sub8 conv a b bin).res.toNat : Int) - 256 * ((sub8 conv a b bin).cy.toNat : Int) =
      (a.toNat : Int) - b.toNat - bin.toNat := by
  have ha := a.isLt
  have hb := b.isLt
  have hc := Bool.toNat_le bin
  by_cases h : (a.toNat : Int) - b.toNat - bin.toNat < 0
  · simp only [sub8, BitVec.toNat_ofInt, h, decide_true, Bool.toNat_true]
    omega
  · simp only [sub8, BitVec.toNat_ofInt, h, decide_false, Bool.toNat_false]
    omega

/-- Without a row of the table, DAA is the default. -/
theorem daaFn_nil (a : Byte) (ac cy : Bool) : daaFn [] a ac cy = daaStandard a ac cy := rfl

end Sys2Proof.Machine
end

