-- ==== Sys2Proof/Laws/Memory.lean ====
section
/-! SUPPORT. What the memory operations do: a read after a write, and the canonical form kept by
every operation (20_memory.md R31). -/

namespace Sys2Proof.Machine

theorem Memory.get_erase (m : Memory) (n a : Nat) :
    Memory.get (Memory.erase m n) a = if a = n then Config.unlistedByte else Memory.get m a := by
  induction m with
  | nil => simp [Memory.erase, Memory.get]
  | cons c rest ih =>
    obtain ⟨k, v⟩ := c
    by_cases hk : k = n
    · subst hk
      by_cases ha : a = k
      · subst ha
        simpa [Memory.erase] using ih
      · simp [Memory.erase, Memory.get, ih, ha, Ne.symm ha]
    · by_cases ha : k = a
      · subst ha
        simp [Memory.erase, Memory.get, hk]
      · simp [Memory.erase, Memory.get, hk, ha, ih]

theorem Memory.get_insert (m : Memory) (n a : Nat) (v : Byte)
    (hn : ∀ c ∈ m, c.1 ≠ n) :
    Memory.get (Memory.insert m n v) a = if a = n then v else Memory.get m a := by
  induction m with
  | nil =>
    by_cases ha : a = n
    · simp [Memory.insert, Memory.get, ha]
    · simp [Memory.insert, Memory.get, ha, Ne.symm ha]
  | cons c rest ih =>
    obtain ⟨k, w⟩ := c
    have hk : k ≠ n := hn (k, w) (by simp)
    have ih := ih (fun c hc => hn c (by simp [hc]))
    by_cases hlt : n < k
    · by_cases ha : a = n
      · simp [Memory.insert, Memory.get, hlt, ha]
      · simp [Memory.insert, Memory.get, hlt, ha, Ne.symm ha]
    · by_cases ha : k = a
      · subst ha
        simp [Memory.insert, Memory.get, hlt, hk]
      · simp [Memory.insert, Memory.get, hlt, ha, ih]

theorem Memory.not_mem_erase (m : Memory) (n : Nat) : ∀ c ∈ Memory.erase m n, c.1 ≠ n := by
  induction m with
  | nil => simp [Memory.erase]
  | cons c rest ih =>
    obtain ⟨k, v⟩ := c
    by_cases hk : k = n
    · simpa [Memory.erase, hk] using ih
    · simp only [Memory.erase, hk, if_false, List.mem_cons]
      rintro c (rfl | hc)
      · exact hk
      · exact ih c hc

/-- A read after a write gives the value written at that address, and every other address as
before, whatever the listing. -/
@[simp] theorem Memory.get_put (m : Memory) (n a : Nat) (v : Byte) :
    Memory.get (Memory.put m n v) a = if a = n then v else Memory.get m a := by
  unfold Memory.put
  split
  · next hv => rw [Memory.get_erase, hv]
  · rw [Memory.get_insert _ _ _ _ (Memory.not_mem_erase m n),
      Memory.get_erase]
    split <;> rfl

/-- The canonical form from an address on holds from every lower one on. -/
theorem Memory.wfFrom_mono {lo lo' : Nat} (m : Memory) (hle : lo' ≤ lo)
    (h : Memory.wfFrom lo m = true) : Memory.wfFrom lo' m = true := by
  cases m with
  | nil => rfl
  | cons c rest =>
    obtain ⟨k, v⟩ := c
    simp only [Memory.wfFrom, Bool.and_eq_true, decide_eq_true_eq] at h ⊢
    exact ⟨⟨⟨hle.trans h.1.1.1, h.1.1.2⟩, h.1.2⟩, h.2⟩

theorem Memory.wfFrom_erase {lo : Nat} (m : Memory) (n : Nat) (h : Memory.wfFrom lo m = true) :
    Memory.wfFrom lo (Memory.erase m n) = true := by
  induction m generalizing lo with
  | nil => rfl
  | cons c rest ih =>
    obtain ⟨k, v⟩ := c
    simp only [Memory.wfFrom, Bool.and_eq_true, decide_eq_true_eq] at h
    by_cases hk : k = n
    · simp only [Memory.erase, hk, if_true]
      exact Memory.wfFrom_mono _ (by omega) (ih h.2)
    · simp only [Memory.erase, hk, if_false, Memory.wfFrom, Bool.and_eq_true, decide_eq_true_eq]
      exact ⟨h.1, ih h.2⟩

theorem Memory.wfFrom_insert {lo : Nat} (m : Memory) (n : Nat) (v : Byte)
    (h : Memory.wfFrom lo m = true) (hlo : lo ≤ n) (hn : n < 65536)
    (hv : v ≠ Config.unlistedByte) (hm : ∀ c ∈ m, c.1 ≠ n) :
    Memory.wfFrom lo (Memory.insert m n v) = true := by
  induction m generalizing lo with
  | nil => simp [Memory.insert, Memory.wfFrom, hlo, hn, hv]
  | cons c rest ih =>
    obtain ⟨k, w⟩ := c
    simp only [Memory.wfFrom, Bool.and_eq_true, decide_eq_true_eq] at h
    have hk : k ≠ n := hm (k, w) (by simp)
    by_cases hlt : n < k
    · simp only [Memory.insert, hlt, if_true, Memory.wfFrom, Bool.and_eq_true, decide_eq_true_eq]
      exact ⟨⟨⟨hlo, hn⟩, by simpa using hv⟩, ⟨⟨by omega, h.1.1.2⟩, h.1.2⟩, h.2⟩
    · simp only [Memory.insert, hlt, if_false, Memory.wfFrom, Bool.and_eq_true, decide_eq_true_eq]
      exact ⟨h.1, ih h.2 (by omega) (fun c hc => hm c (by simp [hc]))⟩

/-- A write below 65,536 keeps the canonical form. -/
theorem Memory.put_wf (m : Memory) (n : Nat) (v : Byte) (h : Memory.wf m = true)
    (hn : n < 65536) : Memory.wf (Memory.put m n v) = true := by
  unfold Memory.put
  split
  · exact Memory.wfFrom_erase m n h
  · next hv =>
    exact Memory.wfFrom_insert _ n v (Memory.wfFrom_erase m n h) (Nat.zero_le n) hn hv
      (Memory.not_mem_erase m n)

theorem Memory.nil_wf : Memory.wf [] = true := rfl

end Sys2Proof.Machine
end

