-- ==== Sys2Proof/Laws/State.lean ====
section
/-! SUPPORT. One lemma per field per update: what each field reads after each update. -/

namespace Sys2Proof.Machine

variable (s : State)

/-! ### setA -/

@[simp] theorem State.setA_a (v : Byte) : (s.setA v).a = v := rfl
@[simp] theorem State.setA_b (v : Byte) : (s.setA v).b = s.b := rfl
@[simp] theorem State.setA_c (v : Byte) : (s.setA v).c = s.c := rfl
@[simp] theorem State.setA_d (v : Byte) : (s.setA v).d = s.d := rfl
@[simp] theorem State.setA_e (v : Byte) : (s.setA v).e = s.e := rfl
@[simp] theorem State.setA_h (v : Byte) : (s.setA v).h = s.h := rfl
@[simp] theorem State.setA_l (v : Byte) : (s.setA v).l = s.l := rfl
@[simp] theorem State.setA_sp (v : Byte) : (s.setA v).sp = s.sp := rfl
@[simp] theorem State.setA_pc (v : Byte) : (s.setA v).pc = s.pc := rfl
@[simp] theorem State.setA_flags (v : Byte) : (s.setA v).flags = s.flags := rfl
@[simp] theorem State.setA_inte (v : Byte) : (s.setA v).inte = s.inte := rfl
@[simp] theorem State.setA_halted (v : Byte) : (s.setA v).halted = s.halted := rfl
@[simp] theorem State.setA_mem (v : Byte) : (s.setA v).mem = s.mem := rfl
@[simp] theorem State.setA_params (v : Byte) : (s.setA v).params = s.params := rfl

/-! ### setB -/

@[simp] theorem State.setB_a (v : Byte) : (s.setB v).a = s.a := rfl
@[simp] theorem State.setB_b (v : Byte) : (s.setB v).b = v := rfl
@[simp] theorem State.setB_c (v : Byte) : (s.setB v).c = s.c := rfl
@[simp] theorem State.setB_d (v : Byte) : (s.setB v).d = s.d := rfl
@[simp] theorem State.setB_e (v : Byte) : (s.setB v).e = s.e := rfl
@[simp] theorem State.setB_h (v : Byte) : (s.setB v).h = s.h := rfl
@[simp] theorem State.setB_l (v : Byte) : (s.setB v).l = s.l := rfl
@[simp] theorem State.setB_sp (v : Byte) : (s.setB v).sp = s.sp := rfl
@[simp] theorem State.setB_pc (v : Byte) : (s.setB v).pc = s.pc := rfl
@[simp] theorem State.setB_flags (v : Byte) : (s.setB v).flags = s.flags := rfl
@[simp] theorem State.setB_inte (v : Byte) : (s.setB v).inte = s.inte := rfl
@[simp] theorem State.setB_halted (v : Byte) : (s.setB v).halted = s.halted := rfl
@[simp] theorem State.setB_mem (v : Byte) : (s.setB v).mem = s.mem := rfl
@[simp] theorem State.setB_params (v : Byte) : (s.setB v).params = s.params := rfl

/-! ### setC -/

@[simp] theorem State.setC_a (v : Byte) : (s.setC v).a = s.a := rfl
@[simp] theorem State.setC_b (v : Byte) : (s.setC v).b = s.b := rfl
@[simp] theorem State.setC_c (v : Byte) : (s.setC v).c = v := rfl
@[simp] theorem State.setC_d (v : Byte) : (s.setC v).d = s.d := rfl
@[simp] theorem State.setC_e (v : Byte) : (s.setC v).e = s.e := rfl
@[simp] theorem State.setC_h (v : Byte) : (s.setC v).h = s.h := rfl
@[simp] theorem State.setC_l (v : Byte) : (s.setC v).l = s.l := rfl
@[simp] theorem State.setC_sp (v : Byte) : (s.setC v).sp = s.sp := rfl
@[simp] theorem State.setC_pc (v : Byte) : (s.setC v).pc = s.pc := rfl
@[simp] theorem State.setC_flags (v : Byte) : (s.setC v).flags = s.flags := rfl
@[simp] theorem State.setC_inte (v : Byte) : (s.setC v).inte = s.inte := rfl
@[simp] theorem State.setC_halted (v : Byte) : (s.setC v).halted = s.halted := rfl
@[simp] theorem State.setC_mem (v : Byte) : (s.setC v).mem = s.mem := rfl
@[simp] theorem State.setC_params (v : Byte) : (s.setC v).params = s.params := rfl

/-! ### setD -/

@[simp] theorem State.setD_a (v : Byte) : (s.setD v).a = s.a := rfl
@[simp] theorem State.setD_b (v : Byte) : (s.setD v).b = s.b := rfl
@[simp] theorem State.setD_c (v : Byte) : (s.setD v).c = s.c := rfl
@[simp] theorem State.setD_d (v : Byte) : (s.setD v).d = v := rfl
@[simp] theorem State.setD_e (v : Byte) : (s.setD v).e = s.e := rfl
@[simp] theorem State.setD_h (v : Byte) : (s.setD v).h = s.h := rfl
@[simp] theorem State.setD_l (v : Byte) : (s.setD v).l = s.l := rfl
@[simp] theorem State.setD_sp (v : Byte) : (s.setD v).sp = s.sp := rfl
@[simp] theorem State.setD_pc (v : Byte) : (s.setD v).pc = s.pc := rfl
@[simp] theorem State.setD_flags (v : Byte) : (s.setD v).flags = s.flags := rfl
@[simp] theorem State.setD_inte (v : Byte) : (s.setD v).inte = s.inte := rfl
@[simp] theorem State.setD_halted (v : Byte) : (s.setD v).halted = s.halted := rfl
@[simp] theorem State.setD_mem (v : Byte) : (s.setD v).mem = s.mem := rfl
@[simp] theorem State.setD_params (v : Byte) : (s.setD v).params = s.params := rfl

/-! ### setE -/

@[simp] theorem State.setE_a (v : Byte) : (s.setE v).a = s.a := rfl
@[simp] theorem State.setE_b (v : Byte) : (s.setE v).b = s.b := rfl
@[simp] theorem State.setE_c (v : Byte) : (s.setE v).c = s.c := rfl
@[simp] theorem State.setE_d (v : Byte) : (s.setE v).d = s.d := rfl
@[simp] theorem State.setE_e (v : Byte) : (s.setE v).e = v := rfl
@[simp] theorem State.setE_h (v : Byte) : (s.setE v).h = s.h := rfl
@[simp] theorem State.setE_l (v : Byte) : (s.setE v).l = s.l := rfl
@[simp] theorem State.setE_sp (v : Byte) : (s.setE v).sp = s.sp := rfl
@[simp] theorem State.setE_pc (v : Byte) : (s.setE v).pc = s.pc := rfl
@[simp] theorem State.setE_flags (v : Byte) : (s.setE v).flags = s.flags := rfl
@[simp] theorem State.setE_inte (v : Byte) : (s.setE v).inte = s.inte := rfl
@[simp] theorem State.setE_halted (v : Byte) : (s.setE v).halted = s.halted := rfl
@[simp] theorem State.setE_mem (v : Byte) : (s.setE v).mem = s.mem := rfl
@[simp] theorem State.setE_params (v : Byte) : (s.setE v).params = s.params := rfl

/-! ### setH -/

@[simp] theorem State.setH_a (v : Byte) : (s.setH v).a = s.a := rfl
@[simp] theorem State.setH_b (v : Byte) : (s.setH v).b = s.b := rfl
@[simp] theorem State.setH_c (v : Byte) : (s.setH v).c = s.c := rfl
@[simp] theorem State.setH_d (v : Byte) : (s.setH v).d = s.d := rfl
@[simp] theorem State.setH_e (v : Byte) : (s.setH v).e = s.e := rfl
@[simp] theorem State.setH_h (v : Byte) : (s.setH v).h = v := rfl
@[simp] theorem State.setH_l (v : Byte) : (s.setH v).l = s.l := rfl
@[simp] theorem State.setH_sp (v : Byte) : (s.setH v).sp = s.sp := rfl
@[simp] theorem State.setH_pc (v : Byte) : (s.setH v).pc = s.pc := rfl
@[simp] theorem State.setH_flags (v : Byte) : (s.setH v).flags = s.flags := rfl
@[simp] theorem State.setH_inte (v : Byte) : (s.setH v).inte = s.inte := rfl
@[simp] theorem State.setH_halted (v : Byte) : (s.setH v).halted = s.halted := rfl
@[simp] theorem State.setH_mem (v : Byte) : (s.setH v).mem = s.mem := rfl
@[simp] theorem State.setH_params (v : Byte) : (s.setH v).params = s.params := rfl

/-! ### setL -/

@[simp] theorem State.setL_a (v : Byte) : (s.setL v).a = s.a := rfl
@[simp] theorem State.setL_b (v : Byte) : (s.setL v).b = s.b := rfl
@[simp] theorem State.setL_c (v : Byte) : (s.setL v).c = s.c := rfl
@[simp] theorem State.setL_d (v : Byte) : (s.setL v).d = s.d := rfl
@[simp] theorem State.setL_e (v : Byte) : (s.setL v).e = s.e := rfl
@[simp] theorem State.setL_h (v : Byte) : (s.setL v).h = s.h := rfl
@[simp] theorem State.setL_l (v : Byte) : (s.setL v).l = v := rfl
@[simp] theorem State.setL_sp (v : Byte) : (s.setL v).sp = s.sp := rfl
@[simp] theorem State.setL_pc (v : Byte) : (s.setL v).pc = s.pc := rfl
@[simp] theorem State.setL_flags (v : Byte) : (s.setL v).flags = s.flags := rfl
@[simp] theorem State.setL_inte (v : Byte) : (s.setL v).inte = s.inte := rfl
@[simp] theorem State.setL_halted (v : Byte) : (s.setL v).halted = s.halted := rfl
@[simp] theorem State.setL_mem (v : Byte) : (s.setL v).mem = s.mem := rfl
@[simp] theorem State.setL_params (v : Byte) : (s.setL v).params = s.params := rfl

/-! ### setSp -/

@[simp] theorem State.setSp_a (v : Word) : (s.setSp v).a = s.a := rfl
@[simp] theorem State.setSp_b (v : Word) : (s.setSp v).b = s.b := rfl
@[simp] theorem State.setSp_c (v : Word) : (s.setSp v).c = s.c := rfl
@[simp] theorem State.setSp_d (v : Word) : (s.setSp v).d = s.d := rfl
@[simp] theorem State.setSp_e (v : Word) : (s.setSp v).e = s.e := rfl
@[simp] theorem State.setSp_h (v : Word) : (s.setSp v).h = s.h := rfl
@[simp] theorem State.setSp_l (v : Word) : (s.setSp v).l = s.l := rfl
@[simp] theorem State.setSp_sp (v : Word) : (s.setSp v).sp = v := rfl
@[simp] theorem State.setSp_pc (v : Word) : (s.setSp v).pc = s.pc := rfl
@[simp] theorem State.setSp_flags (v : Word) : (s.setSp v).flags = s.flags := rfl
@[simp] theorem State.setSp_inte (v : Word) : (s.setSp v).inte = s.inte := rfl
@[simp] theorem State.setSp_halted (v : Word) : (s.setSp v).halted = s.halted := rfl
@[simp] theorem State.setSp_mem (v : Word) : (s.setSp v).mem = s.mem := rfl
@[simp] theorem State.setSp_params (v : Word) : (s.setSp v).params = s.params := rfl

/-! ### setPc -/

@[simp] theorem State.setPc_a (v : Word) : (s.setPc v).a = s.a := rfl
@[simp] theorem State.setPc_b (v : Word) : (s.setPc v).b = s.b := rfl
@[simp] theorem State.setPc_c (v : Word) : (s.setPc v).c = s.c := rfl
@[simp] theorem State.setPc_d (v : Word) : (s.setPc v).d = s.d := rfl
@[simp] theorem State.setPc_e (v : Word) : (s.setPc v).e = s.e := rfl
@[simp] theorem State.setPc_h (v : Word) : (s.setPc v).h = s.h := rfl
@[simp] theorem State.setPc_l (v : Word) : (s.setPc v).l = s.l := rfl
@[simp] theorem State.setPc_sp (v : Word) : (s.setPc v).sp = s.sp := rfl
@[simp] theorem State.setPc_pc (v : Word) : (s.setPc v).pc = v := rfl
@[simp] theorem State.setPc_flags (v : Word) : (s.setPc v).flags = s.flags := rfl
@[simp] theorem State.setPc_inte (v : Word) : (s.setPc v).inte = s.inte := rfl
@[simp] theorem State.setPc_halted (v : Word) : (s.setPc v).halted = s.halted := rfl
@[simp] theorem State.setPc_mem (v : Word) : (s.setPc v).mem = s.mem := rfl
@[simp] theorem State.setPc_params (v : Word) : (s.setPc v).params = s.params := rfl

/-! ### setFlags -/

@[simp] theorem State.setFlags_a (v : Flags) : (s.setFlags v).a = s.a := rfl
@[simp] theorem State.setFlags_b (v : Flags) : (s.setFlags v).b = s.b := rfl
@[simp] theorem State.setFlags_c (v : Flags) : (s.setFlags v).c = s.c := rfl
@[simp] theorem State.setFlags_d (v : Flags) : (s.setFlags v).d = s.d := rfl
@[simp] theorem State.setFlags_e (v : Flags) : (s.setFlags v).e = s.e := rfl
@[simp] theorem State.setFlags_h (v : Flags) : (s.setFlags v).h = s.h := rfl
@[simp] theorem State.setFlags_l (v : Flags) : (s.setFlags v).l = s.l := rfl
@[simp] theorem State.setFlags_sp (v : Flags) : (s.setFlags v).sp = s.sp := rfl
@[simp] theorem State.setFlags_pc (v : Flags) : (s.setFlags v).pc = s.pc := rfl
@[simp] theorem State.setFlags_flags (v : Flags) : (s.setFlags v).flags = v := rfl
@[simp] theorem State.setFlags_inte (v : Flags) : (s.setFlags v).inte = s.inte := rfl
@[simp] theorem State.setFlags_halted (v : Flags) : (s.setFlags v).halted = s.halted := rfl
@[simp] theorem State.setFlags_mem (v : Flags) : (s.setFlags v).mem = s.mem := rfl
@[simp] theorem State.setFlags_params (v : Flags) : (s.setFlags v).params = s.params := rfl

/-! ### setInte -/

@[simp] theorem State.setInte_a (v : Bool) : (s.setInte v).a = s.a := rfl
@[simp] theorem State.setInte_b (v : Bool) : (s.setInte v).b = s.b := rfl
@[simp] theorem State.setInte_c (v : Bool) : (s.setInte v).c = s.c := rfl
@[simp] theorem State.setInte_d (v : Bool) : (s.setInte v).d = s.d := rfl
@[simp] theorem State.setInte_e (v : Bool) : (s.setInte v).e = s.e := rfl
@[simp] theorem State.setInte_h (v : Bool) : (s.setInte v).h = s.h := rfl
@[simp] theorem State.setInte_l (v : Bool) : (s.setInte v).l = s.l := rfl
@[simp] theorem State.setInte_sp (v : Bool) : (s.setInte v).sp = s.sp := rfl
@[simp] theorem State.setInte_pc (v : Bool) : (s.setInte v).pc = s.pc := rfl
@[simp] theorem State.setInte_flags (v : Bool) : (s.setInte v).flags = s.flags := rfl
@[simp] theorem State.setInte_inte (v : Bool) : (s.setInte v).inte = v := rfl
@[simp] theorem State.setInte_halted (v : Bool) : (s.setInte v).halted = s.halted := rfl
@[simp] theorem State.setInte_mem (v : Bool) : (s.setInte v).mem = s.mem := rfl
@[simp] theorem State.setInte_params (v : Bool) : (s.setInte v).params = s.params := rfl

/-! ### setHalted -/

@[simp] theorem State.setHalted_a (v : Bool) : (s.setHalted v).a = s.a := rfl
@[simp] theorem State.setHalted_b (v : Bool) : (s.setHalted v).b = s.b := rfl
@[simp] theorem State.setHalted_c (v : Bool) : (s.setHalted v).c = s.c := rfl
@[simp] theorem State.setHalted_d (v : Bool) : (s.setHalted v).d = s.d := rfl
@[simp] theorem State.setHalted_e (v : Bool) : (s.setHalted v).e = s.e := rfl
@[simp] theorem State.setHalted_h (v : Bool) : (s.setHalted v).h = s.h := rfl
@[simp] theorem State.setHalted_l (v : Bool) : (s.setHalted v).l = s.l := rfl
@[simp] theorem State.setHalted_sp (v : Bool) : (s.setHalted v).sp = s.sp := rfl
@[simp] theorem State.setHalted_pc (v : Bool) : (s.setHalted v).pc = s.pc := rfl
@[simp] theorem State.setHalted_flags (v : Bool) : (s.setHalted v).flags = s.flags := rfl
@[simp] theorem State.setHalted_inte (v : Bool) : (s.setHalted v).inte = s.inte := rfl
@[simp] theorem State.setHalted_halted (v : Bool) : (s.setHalted v).halted = v := rfl
@[simp] theorem State.setHalted_mem (v : Bool) : (s.setHalted v).mem = s.mem := rfl
@[simp] theorem State.setHalted_params (v : Bool) : (s.setHalted v).params = s.params := rfl

/-! ### setMem -/

@[simp] theorem State.setMem_a (v : Memory) : (s.setMem v).a = s.a := rfl
@[simp] theorem State.setMem_b (v : Memory) : (s.setMem v).b = s.b := rfl
@[simp] theorem State.setMem_c (v : Memory) : (s.setMem v).c = s.c := rfl
@[simp] theorem State.setMem_d (v : Memory) : (s.setMem v).d = s.d := rfl
@[simp] theorem State.setMem_e (v : Memory) : (s.setMem v).e = s.e := rfl
@[simp] theorem State.setMem_h (v : Memory) : (s.setMem v).h = s.h := rfl
@[simp] theorem State.setMem_l (v : Memory) : (s.setMem v).l = s.l := rfl
@[simp] theorem State.setMem_sp (v : Memory) : (s.setMem v).sp = s.sp := rfl
@[simp] theorem State.setMem_pc (v : Memory) : (s.setMem v).pc = s.pc := rfl
@[simp] theorem State.setMem_flags (v : Memory) : (s.setMem v).flags = s.flags := rfl
@[simp] theorem State.setMem_inte (v : Memory) : (s.setMem v).inte = s.inte := rfl
@[simp] theorem State.setMem_halted (v : Memory) : (s.setMem v).halted = s.halted := rfl
@[simp] theorem State.setMem_mem (v : Memory) : (s.setMem v).mem = v := rfl
@[simp] theorem State.setMem_params (v : Memory) : (s.setMem v).params = s.params := rfl

/-! ### Pairs of updates: setBC, setDE, setHL -/

@[simp] theorem State.setBC_a (v : Word) : (s.setBC v).a = s.a := rfl
@[simp] theorem State.setBC_b (v : Word) : (s.setBC v).b = hiByte v := rfl
@[simp] theorem State.setBC_c (v : Word) : (s.setBC v).c = loByte v := rfl
@[simp] theorem State.setBC_d (v : Word) : (s.setBC v).d = s.d := rfl
@[simp] theorem State.setBC_e (v : Word) : (s.setBC v).e = s.e := rfl
@[simp] theorem State.setBC_h (v : Word) : (s.setBC v).h = s.h := rfl
@[simp] theorem State.setBC_l (v : Word) : (s.setBC v).l = s.l := rfl
@[simp] theorem State.setBC_sp (v : Word) : (s.setBC v).sp = s.sp := rfl
@[simp] theorem State.setBC_pc (v : Word) : (s.setBC v).pc = s.pc := rfl
@[simp] theorem State.setBC_flags (v : Word) : (s.setBC v).flags = s.flags := rfl
@[simp] theorem State.setBC_inte (v : Word) : (s.setBC v).inte = s.inte := rfl
@[simp] theorem State.setBC_halted (v : Word) : (s.setBC v).halted = s.halted := rfl
@[simp] theorem State.setBC_mem (v : Word) : (s.setBC v).mem = s.mem := rfl
@[simp] theorem State.setBC_params (v : Word) : (s.setBC v).params = s.params := rfl
@[simp] theorem State.setDE_a (v : Word) : (s.setDE v).a = s.a := rfl
@[simp] theorem State.setDE_b (v : Word) : (s.setDE v).b = s.b := rfl
@[simp] theorem State.setDE_c (v : Word) : (s.setDE v).c = s.c := rfl
@[simp] theorem State.setDE_d (v : Word) : (s.setDE v).d = hiByte v := rfl
@[simp] theorem State.setDE_e (v : Word) : (s.setDE v).e = loByte v := rfl
@[simp] theorem State.setDE_h (v : Word) : (s.setDE v).h = s.h := rfl
@[simp] theorem State.setDE_l (v : Word) : (s.setDE v).l = s.l := rfl
@[simp] theorem State.setDE_sp (v : Word) : (s.setDE v).sp = s.sp := rfl
@[simp] theorem State.setDE_pc (v : Word) : (s.setDE v).pc = s.pc := rfl
@[simp] theorem State.setDE_flags (v : Word) : (s.setDE v).flags = s.flags := rfl
@[simp] theorem State.setDE_inte (v : Word) : (s.setDE v).inte = s.inte := rfl
@[simp] theorem State.setDE_halted (v : Word) : (s.setDE v).halted = s.halted := rfl
@[simp] theorem State.setDE_mem (v : Word) : (s.setDE v).mem = s.mem := rfl
@[simp] theorem State.setDE_params (v : Word) : (s.setDE v).params = s.params := rfl
@[simp] theorem State.setHL_a (v : Word) : (s.setHL v).a = s.a := rfl
@[simp] theorem State.setHL_b (v : Word) : (s.setHL v).b = s.b := rfl
@[simp] theorem State.setHL_c (v : Word) : (s.setHL v).c = s.c := rfl
@[simp] theorem State.setHL_d (v : Word) : (s.setHL v).d = s.d := rfl
@[simp] theorem State.setHL_e (v : Word) : (s.setHL v).e = s.e := rfl
@[simp] theorem State.setHL_h (v : Word) : (s.setHL v).h = hiByte v := rfl
@[simp] theorem State.setHL_l (v : Word) : (s.setHL v).l = loByte v := rfl
@[simp] theorem State.setHL_sp (v : Word) : (s.setHL v).sp = s.sp := rfl
@[simp] theorem State.setHL_pc (v : Word) : (s.setHL v).pc = s.pc := rfl
@[simp] theorem State.setHL_flags (v : Word) : (s.setHL v).flags = s.flags := rfl
@[simp] theorem State.setHL_inte (v : Word) : (s.setHL v).inte = s.inte := rfl
@[simp] theorem State.setHL_halted (v : Word) : (s.setHL v).halted = s.halted := rfl
@[simp] theorem State.setHL_mem (v : Word) : (s.setHL v).mem = s.mem := rfl
@[simp] theorem State.setHL_params (v : Word) : (s.setHL v).params = s.params := rfl

/-! ### advance changes PC only -/

@[simp] theorem State.advance_a (n : Nat) : (s.advance n).a = s.a := rfl
@[simp] theorem State.advance_b (n : Nat) : (s.advance n).b = s.b := rfl
@[simp] theorem State.advance_c (n : Nat) : (s.advance n).c = s.c := rfl
@[simp] theorem State.advance_d (n : Nat) : (s.advance n).d = s.d := rfl
@[simp] theorem State.advance_e (n : Nat) : (s.advance n).e = s.e := rfl
@[simp] theorem State.advance_h (n : Nat) : (s.advance n).h = s.h := rfl
@[simp] theorem State.advance_l (n : Nat) : (s.advance n).l = s.l := rfl
@[simp] theorem State.advance_sp (n : Nat) : (s.advance n).sp = s.sp := rfl
@[simp] theorem State.advance_pc (n : Nat) : (s.advance n).pc = s.npc n := rfl
@[simp] theorem State.advance_flags (n : Nat) : (s.advance n).flags = s.flags := rfl
@[simp] theorem State.advance_inte (n : Nat) : (s.advance n).inte = s.inte := rfl
@[simp] theorem State.advance_halted (n : Nat) : (s.advance n).halted = s.halted := rfl
@[simp] theorem State.advance_mem (n : Nat) : (s.advance n).mem = s.mem := rfl
@[simp] theorem State.advance_params (n : Nat) : (s.advance n).params = s.params := rfl

/-! ### writeByte changes memory only -/

@[simp] theorem State.writeByte_a (x : Word) (v : Byte) : (s.writeByte x v).a = s.a := rfl
@[simp] theorem State.writeByte_b (x : Word) (v : Byte) : (s.writeByte x v).b = s.b := rfl
@[simp] theorem State.writeByte_c (x : Word) (v : Byte) : (s.writeByte x v).c = s.c := rfl
@[simp] theorem State.writeByte_d (x : Word) (v : Byte) : (s.writeByte x v).d = s.d := rfl
@[simp] theorem State.writeByte_e (x : Word) (v : Byte) : (s.writeByte x v).e = s.e := rfl
@[simp] theorem State.writeByte_h (x : Word) (v : Byte) : (s.writeByte x v).h = s.h := rfl
@[simp] theorem State.writeByte_l (x : Word) (v : Byte) : (s.writeByte x v).l = s.l := rfl
@[simp] theorem State.writeByte_sp (x : Word) (v : Byte) : (s.writeByte x v).sp = s.sp := rfl
@[simp] theorem State.writeByte_pc (x : Word) (v : Byte) : (s.writeByte x v).pc = s.pc := rfl
@[simp] theorem State.writeByte_flags (x : Word) (v : Byte) : (s.writeByte x v).flags = s.flags := rfl
@[simp] theorem State.writeByte_inte (x : Word) (v : Byte) : (s.writeByte x v).inte = s.inte := rfl
@[simp] theorem State.writeByte_halted (x : Word) (v : Byte) : (s.writeByte x v).halted = s.halted := rfl
@[simp] theorem State.writeByte_mem (x : Word) (v : Byte) : (s.writeByte x v).mem = Memory.put s.mem x.toNat v := rfl
@[simp] theorem State.writeByte_params (x : Word) (v : Byte) : (s.writeByte x v).params = s.params := rfl

/-! ### Reset -/

variable (p : Params) (r : RegInit) (m : Memory)

@[simp] theorem State.resetWith_pc : (State.resetWith p r m).pc = Config.resetPc := rfl
@[simp] theorem State.resetWith_inte : (State.resetWith p r m).inte = false := rfl
@[simp] theorem State.resetWith_halted : (State.resetWith p r m).halted = false := rfl
@[simp] theorem State.resetWith_mem : (State.resetWith p r m).mem = m := rfl
@[simp] theorem State.resetWith_params : (State.resetWith p r m).params = p := rfl

end Sys2Proof.Machine
end

