-- ==== Sys2Proof/Laws/Ops.lean ====
section
/-! SUPPORT. One lemma for each shared operation: all that it does. -/

namespace Sys2Proof.Machine

/-! ### Bytes of a word (R9, R28) -/

@[simp] theorem hiByte_mkWord (x y : Byte) : hiByte (mkWord x y) = x := by
  unfold hiByte mkWord
  ext i hi
  simp only [BitVec.getElem_extractLsb']
  rw [BitVec.getLsbD_append]
  simp [BitVec.getLsbD_eq_getElem hi]

@[simp] theorem loByte_mkWord (x y : Byte) : loByte (mkWord x y) = y := by
  unfold loByte mkWord
  ext i hi
  simp only [BitVec.getElem_extractLsb']
  rw [BitVec.getLsbD_append]
  simp [hi]

@[simp] theorem mkWord_bytes (v : Word) : mkWord (hiByte v) (loByte v) = v := by
  unfold hiByte loByte mkWord
  ext i hi
  rw [← BitVec.getLsbD_eq_getElem, BitVec.getLsbD_append]
  by_cases h : i < 8
  · simp [h, BitVec.getLsbD_eq_getElem hi]
  · have h8 : i - 8 < 8 := by omega
    have hadd : 8 + (i - 8) = i := by omega
    simp [h, h8, hadd, BitVec.getLsbD_eq_getElem hi]

/-! ### Memory accesses (R31, R32) -/

/-- A byte read after a byte written, at every address. -/
@[simp] theorem State.readByte_writeByte (s : State) (x y : Word) (v : Byte) :
    (s.writeByte x v).readByte y = if y = x then v else s.readByte y := by
  simp only [State.readByte, State.writeByte_mem, Memory.get_put, BitVec.toNat_inj]

/-- A read looks at memory alone. -/
theorem State.readByte_congr {s t : State} (h : t.mem = s.mem) (x : Word) :
    t.readByte x = s.readByte x := by
  simp only [State.readByte, h]

/-! ### A register update is no memory write -/

section
variable (s : State) (x : Word)

@[simp] theorem State.readByte_setA (v : Byte) : (s.setA v).readByte x = s.readByte x := rfl
@[simp] theorem State.readByte_setB (v : Byte) : (s.setB v).readByte x = s.readByte x := rfl
@[simp] theorem State.readByte_setC (v : Byte) : (s.setC v).readByte x = s.readByte x := rfl
@[simp] theorem State.readByte_setD (v : Byte) : (s.setD v).readByte x = s.readByte x := rfl
@[simp] theorem State.readByte_setE (v : Byte) : (s.setE v).readByte x = s.readByte x := rfl
@[simp] theorem State.readByte_setH (v : Byte) : (s.setH v).readByte x = s.readByte x := rfl
@[simp] theorem State.readByte_setL (v : Byte) : (s.setL v).readByte x = s.readByte x := rfl
@[simp] theorem State.readByte_setSp (v : Word) : (s.setSp v).readByte x = s.readByte x := rfl
@[simp] theorem State.readByte_setPc (v : Word) : (s.setPc v).readByte x = s.readByte x := rfl
@[simp] theorem State.readByte_setFlags (v : Flags) : (s.setFlags v).readByte x = s.readByte x := rfl
@[simp] theorem State.readByte_setInte (v : Bool) : (s.setInte v).readByte x = s.readByte x := rfl
@[simp] theorem State.readByte_setHalted (v : Bool) : (s.setHalted v).readByte x = s.readByte x := rfl
@[simp] theorem State.readByte_setBC (v : Word) : (s.setBC v).readByte x = s.readByte x := rfl
@[simp] theorem State.readByte_setDE (v : Word) : (s.setDE v).readByte x = s.readByte x := rfl
@[simp] theorem State.readByte_setHL (v : Word) : (s.setHL v).readByte x = s.readByte x := rfl
@[simp] theorem State.readByte_advance (n : Nat) : (s.advance n).readByte x = s.readByte x := rfl

end

/-! ### Writes -/

/-- A byte write keeps the canonical form. -/
theorem State.writeByte_wf (s : State) (x : Word) (v : Byte) (h : Memory.wf s.mem = true) :
    Memory.wf (s.writeByte x v).mem = true :=
  Memory.put_wf s.mem x.toNat v h x.isLt

/-- Every write of two bytes touches its two addresses only. -/
theorem State.readByte_writeWord (s : State) (x y : Word) (v : Word) :
    (s.writeWord x v).readByte y =
      if y = x + 1 then hiByte v else if y = x then loByte v else s.readByte y := by
  simp [State.writeWord]

theorem State.writeWord_wf (s : State) (x : Word) (v : Word) (h : Memory.wf s.mem = true) :
    Memory.wf (s.writeWord x v).mem = true :=
  State.writeByte_wf _ _ _ (State.writeByte_wf s x _ h)

/-- A two-byte write changes memory only. -/
theorem State.writeWord_eq (s : State) (x v : Word) :
    s.writeWord x v = s.setMem (s.writeWord x v).mem := rfl

/-! ### Stack (R134, R135) -/

/-- What a push leaves in memory: the low byte at the new SP, the high byte above it. -/
theorem State.readByte_push16 (s : State) (v y : Word) :
    (s.push16 v).readByte y =
      if y = s.sp - 2 then loByte v else if y = s.sp - 2 + 1 then hiByte v else s.readByte y := by
  simp [State.push16]

/-- A push changes SP and memory only. -/
theorem State.push16_eq (s : State) (v : Word) :
    s.push16 v = (s.setSp (s.sp - 2)).setMem (s.push16 v).mem := rfl

theorem State.push16_wf (s : State) (v : Word) (h : Memory.wf s.mem = true) :
    Memory.wf (s.push16 v).mem = true :=
  State.writeByte_wf _ _ _ (State.writeByte_wf (s.setSp (s.sp - 2)) _ _ h)

/-- Taking a word off the stack moves SP up by 2 and nothing else. -/
theorem State.dropTop_eq (s : State) : s.dropTop = s.setSp (s.sp + 2) := rfl

/-! ### PC -/

theorem State.callTo_eq (s : State) (len : Nat) (target : Word) :
    s.callTo len target = (s.push16 (s.npc len)).setPc target := rfl

theorem State.returnFrom_eq (s : State) :
    s.returnFrom = (s.setSp (s.sp + 2)).setPc s.topOfStack := rfl

/-- A conditional jump goes to its target or on, and changes PC only. -/
theorem State.jumpIf_cases (s : State) (cond : Cond) (target : Word) :
    (condHolds cond s.flags = true ∧ s.jumpIf cond target = s.setPc target) ∨
      (condHolds cond s.flags = false ∧ s.jumpIf cond target = s.advance 3) := by
  unfold State.jumpIf
  cases h : condHolds cond s.flags <;> simp

/-- A conditional call is a call or goes on. -/
theorem State.callIf_cases (s : State) (cond : Cond) (target : Word) :
    (condHolds cond s.flags = true ∧ s.callIf cond target = s.callTo 3 target) ∨
      (condHolds cond s.flags = false ∧ s.callIf cond target = s.advance 3) := by
  unfold State.callIf
  cases h : condHolds cond s.flags <;> simp

/-- A conditional return is a return or goes on. -/
theorem State.returnIf_cases (s : State) (cond : Cond) :
    (condHolds cond s.flags = true ∧ s.returnIf cond = s.returnFrom) ∨
      (condHolds cond s.flags = false ∧ s.returnIf cond = s.advance 1) := by
  unfold State.returnIf
  cases h : condHolds cond s.flags <;> simp

end Sys2Proof.Machine
end

