-- ==== Sys2Proof/Laws/Operands.lean ====
section
/-! SUPPORT. What a read and a write of each operand form do (10_state.md R8 to R10, R20). -/

namespace Sys2Proof.Machine

/-- A register operand write, read back through every register operand. -/
theorem State.readReg8_writeReg8 (s : State) (r q : Reg8) (v : Byte) (hq : q ≠ .m) :
    (s.writeReg8 r v).readReg8 q = if q = r then v else s.readReg8 q := by
  cases r <;> cases q <;> first | exact absurd rfl hq | rfl

/-- Which bytes of memory an operand write leaves: all but the byte at HL, for M. -/
theorem State.readByte_writeReg8 (s : State) (r : Reg8) (v : Byte) (x : Word) :
    (s.writeReg8 r v).readByte x = if r = .m ∧ x = s.hl then v else s.readByte x := by
  cases r with
  | m => simp [State.writeReg8]
  | _ => simp [State.writeReg8, State.readByte]

/-- An operand write leaves SP, PC, the flags, INTE, the stop and the parameters alone. -/
theorem State.writeReg8_frame (s : State) (r : Reg8) (v : Byte) :
    (s.writeReg8 r v).sp = s.sp ∧ (s.writeReg8 r v).pc = s.pc ∧
      (s.writeReg8 r v).flags = s.flags ∧ (s.writeReg8 r v).inte = s.inte ∧
      (s.writeReg8 r v).halted = s.halted ∧ (s.writeReg8 r v).params = s.params := by
  cases r <;> exact ⟨rfl, rfl, rfl, rfl, rfl, rfl⟩

theorem State.writeReg8_wf (s : State) (r : Reg8) (v : Byte) (h : Memory.wf s.mem = true) :
    Memory.wf (s.writeReg8 r v).mem = true := by
  cases r with
  | m => exact State.writeByte_wf s _ v h
  | _ => exact h

/-- A pair written and read back; the other pairs as before. -/
theorem State.readRp_writeRp (s : State) (rp q : Rp) (v : Word) :
    (s.writeRp rp v).readRp q = if q = rp then v else s.readRp q := by
  cases rp <;> cases q <;>
    simp [State.writeRp, State.readRp, State.bc, State.de, State.hl]

/-- A pair write leaves everything but the pair's registers and SP alone. -/
theorem State.writeRp_frame (s : State) (rp : Rp) (v : Word) :
    (s.writeRp rp v).a = s.a ∧ (s.writeRp rp v).pc = s.pc ∧
      (s.writeRp rp v).flags = s.flags ∧ (s.writeRp rp v).inte = s.inte ∧
      (s.writeRp rp v).halted = s.halted ∧ (s.writeRp rp v).mem = s.mem ∧
      (s.writeRp rp v).params = s.params := by
  cases rp <;> exact ⟨rfl, rfl, rfl, rfl, rfl, rfl, rfl⟩

/-- A pair popped leaves SP, PC, memory, INTE, the stop and the parameters alone, and the flags but
for PSW. -/
theorem State.writeStackRp_frame (s : State) (rp : StackRp) (v : Word) :
    (s.writeStackRp rp v).sp = s.sp ∧ (s.writeStackRp rp v).pc = s.pc ∧
      (s.writeStackRp rp v).mem = s.mem ∧ (s.writeStackRp rp v).inte = s.inte ∧
      (s.writeStackRp rp v).halted = s.halted ∧ (s.writeStackRp rp v).params = s.params ∧
      (rp ≠ .psw → (s.writeStackRp rp v).flags = s.flags) := by
  cases rp <;> refine ⟨rfl, rfl, rfl, rfl, rfl, rfl, fun h => ?_⟩ <;>
    first | rfl | exact absurd rfl h

/-- What the arithmetic group writes: A and the five flags. -/
theorem State.setArith_eq (s : State) (r : AluOut) :
    s.setArith r = (s.setA r.res).setFlags (arithFlags s.flags r) := rfl

/-- What a compare writes: the five flags. -/
theorem State.setCompare_eq (s : State) (r : AluOut) :
    s.setCompare r = s.setFlags (arithFlags s.flags r) := rfl

/-- What the logical group writes: A and the five flags. -/
theorem State.setLogic_eq (s : State) (res : Byte) (ac : Bool) :
    s.setLogic res ac = (s.setA res).setFlags (logicFlags s.flags res ac) := rfl

/-- What a rotate writes: A and CY. -/
theorem State.setRotate_eq (s : State) (res : Byte) (cy : Bool) :
    s.setRotate res cy = (s.setA res).setFlags (carryFlag s.flags cy) := rfl

/-- What INR and DCR write: the operand and S, Z, AC, P. -/
theorem State.setCount_eq (s : State) (r : Reg8) (out : AluOut) :
    s.setCount r out = (s.writeReg8 r out.res).setFlags (stepFlags s.flags out) := rfl

end Sys2Proof.Machine
end

