-- ==== Sys2Proof/Laws/PerInstr.lean ====
section
/-! SUPPORT. A statement for every instruction, one lemma per constructor. -/

namespace Sys2Proof.Laws.EncodedLength

/-- The encoding starts with a defined opcode byte and is as long as that byte says
(30_encoding.md R41, R42). -/
def Statement (i : Instr) : Prop :=
  ∃ op operands form, encode i = op :: operands ∧ decodeOpcode op = some form ∧
    (encode i).length = form.length

theorem mov (dst src : Reg8) : Statement (.mov dst src) := by
  cases dst <;> cases src <;> exact ⟨_, _, _, rfl, rfl, rfl⟩

theorem mvi (dst : Reg8) (d8 : Byte) : Statement (.mvi dst d8) := by
  cases dst <;> exact ⟨_, _, _, rfl, rfl, rfl⟩

theorem lxi (rp : Rp) (d16 : Word) : Statement (.lxi rp d16) := by
  cases rp <;> exact ⟨_, _, _, rfl, rfl, rfl⟩

theorem lda (a16 : Word) : Statement (.lda a16) := ⟨_, _, _, rfl, rfl, rfl⟩

theorem sta (a16 : Word) : Statement (.sta a16) := ⟨_, _, _, rfl, rfl, rfl⟩

theorem lhld (a16 : Word) : Statement (.lhld a16) := ⟨_, _, _, rfl, rfl, rfl⟩

theorem shld (a16 : Word) : Statement (.shld a16) := ⟨_, _, _, rfl, rfl, rfl⟩

theorem ldax (rp : IndRp) : Statement (.ldax rp) := by
  cases rp <;> exact ⟨_, _, _, rfl, rfl, rfl⟩

theorem stax (rp : IndRp) : Statement (.stax rp) := by
  cases rp <;> exact ⟨_, _, _, rfl, rfl, rfl⟩

theorem xchg : Statement (.xchg) := ⟨_, _, _, rfl, rfl, rfl⟩

theorem xthl : Statement (.xthl) := ⟨_, _, _, rfl, rfl, rfl⟩

theorem sphl : Statement (.sphl) := ⟨_, _, _, rfl, rfl, rfl⟩

theorem add (src : Reg8) : Statement (.add src) := by
  cases src <;> exact ⟨_, _, _, rfl, rfl, rfl⟩

theorem adc (src : Reg8) : Statement (.adc src) := by
  cases src <;> exact ⟨_, _, _, rfl, rfl, rfl⟩

theorem adi (d8 : Byte) : Statement (.adi d8) := ⟨_, _, _, rfl, rfl, rfl⟩

theorem aci (d8 : Byte) : Statement (.aci d8) := ⟨_, _, _, rfl, rfl, rfl⟩

theorem sub (src : Reg8) : Statement (.sub src) := by
  cases src <;> exact ⟨_, _, _, rfl, rfl, rfl⟩

theorem sbb (src : Reg8) : Statement (.sbb src) := by
  cases src <;> exact ⟨_, _, _, rfl, rfl, rfl⟩

theorem sui (d8 : Byte) : Statement (.sui d8) := ⟨_, _, _, rfl, rfl, rfl⟩

theorem sbi (d8 : Byte) : Statement (.sbi d8) := ⟨_, _, _, rfl, rfl, rfl⟩

theorem inr (r : Reg8) : Statement (.inr r) := by
  cases r <;> exact ⟨_, _, _, rfl, rfl, rfl⟩

theorem dcr (r : Reg8) : Statement (.dcr r) := by
  cases r <;> exact ⟨_, _, _, rfl, rfl, rfl⟩

theorem inx (rp : Rp) : Statement (.inx rp) := by
  cases rp <;> exact ⟨_, _, _, rfl, rfl, rfl⟩

theorem dcx (rp : Rp) : Statement (.dcx rp) := by
  cases rp <;> exact ⟨_, _, _, rfl, rfl, rfl⟩

theorem dad (rp : Rp) : Statement (.dad rp) := by
  cases rp <;> exact ⟨_, _, _, rfl, rfl, rfl⟩

theorem daa : Statement (.daa) := ⟨_, _, _, rfl, rfl, rfl⟩

theorem ana (src : Reg8) : Statement (.ana src) := by
  cases src <;> exact ⟨_, _, _, rfl, rfl, rfl⟩

theorem xra (src : Reg8) : Statement (.xra src) := by
  cases src <;> exact ⟨_, _, _, rfl, rfl, rfl⟩

theorem ora (src : Reg8) : Statement (.ora src) := by
  cases src <;> exact ⟨_, _, _, rfl, rfl, rfl⟩

theorem cmp (src : Reg8) : Statement (.cmp src) := by
  cases src <;> exact ⟨_, _, _, rfl, rfl, rfl⟩

theorem ani (d8 : Byte) : Statement (.ani d8) := ⟨_, _, _, rfl, rfl, rfl⟩

theorem xri (d8 : Byte) : Statement (.xri d8) := ⟨_, _, _, rfl, rfl, rfl⟩

theorem ori (d8 : Byte) : Statement (.ori d8) := ⟨_, _, _, rfl, rfl, rfl⟩

theorem cpi (d8 : Byte) : Statement (.cpi d8) := ⟨_, _, _, rfl, rfl, rfl⟩

theorem rlc : Statement (.rlc) := ⟨_, _, _, rfl, rfl, rfl⟩

theorem rrc : Statement (.rrc) := ⟨_, _, _, rfl, rfl, rfl⟩

theorem ral : Statement (.ral) := ⟨_, _, _, rfl, rfl, rfl⟩

theorem rar : Statement (.rar) := ⟨_, _, _, rfl, rfl, rfl⟩

theorem cma : Statement (.cma) := ⟨_, _, _, rfl, rfl, rfl⟩

theorem stc : Statement (.stc) := ⟨_, _, _, rfl, rfl, rfl⟩

theorem cmc : Statement (.cmc) := ⟨_, _, _, rfl, rfl, rfl⟩

theorem jmp (a16 : Word) : Statement (.jmp a16) := ⟨_, _, _, rfl, rfl, rfl⟩

theorem jnz (a16 : Word) : Statement (.jnz a16) := ⟨_, _, _, rfl, rfl, rfl⟩

theorem jz (a16 : Word) : Statement (.jz a16) := ⟨_, _, _, rfl, rfl, rfl⟩

theorem jnc (a16 : Word) : Statement (.jnc a16) := ⟨_, _, _, rfl, rfl, rfl⟩

theorem jc (a16 : Word) : Statement (.jc a16) := ⟨_, _, _, rfl, rfl, rfl⟩

theorem jpo (a16 : Word) : Statement (.jpo a16) := ⟨_, _, _, rfl, rfl, rfl⟩

theorem jpe (a16 : Word) : Statement (.jpe a16) := ⟨_, _, _, rfl, rfl, rfl⟩

theorem jp (a16 : Word) : Statement (.jp a16) := ⟨_, _, _, rfl, rfl, rfl⟩

theorem jm (a16 : Word) : Statement (.jm a16) := ⟨_, _, _, rfl, rfl, rfl⟩

theorem call (a16 : Word) : Statement (.call a16) := ⟨_, _, _, rfl, rfl, rfl⟩

theorem cnz (a16 : Word) : Statement (.cnz a16) := ⟨_, _, _, rfl, rfl, rfl⟩

theorem cz (a16 : Word) : Statement (.cz a16) := ⟨_, _, _, rfl, rfl, rfl⟩

theorem cnc (a16 : Word) : Statement (.cnc a16) := ⟨_, _, _, rfl, rfl, rfl⟩

theorem cc (a16 : Word) : Statement (.cc a16) := ⟨_, _, _, rfl, rfl, rfl⟩

theorem cpo (a16 : Word) : Statement (.cpo a16) := ⟨_, _, _, rfl, rfl, rfl⟩

theorem cpe (a16 : Word) : Statement (.cpe a16) := ⟨_, _, _, rfl, rfl, rfl⟩

theorem cp (a16 : Word) : Statement (.cp a16) := ⟨_, _, _, rfl, rfl, rfl⟩

theorem cm (a16 : Word) : Statement (.cm a16) := ⟨_, _, _, rfl, rfl, rfl⟩

theorem ret : Statement (.ret) := ⟨_, _, _, rfl, rfl, rfl⟩

theorem rnz : Statement (.rnz) := ⟨_, _, _, rfl, rfl, rfl⟩

theorem rz : Statement (.rz) := ⟨_, _, _, rfl, rfl, rfl⟩

theorem rnc : Statement (.rnc) := ⟨_, _, _, rfl, rfl, rfl⟩

theorem rc : Statement (.rc) := ⟨_, _, _, rfl, rfl, rfl⟩

theorem rpo : Statement (.rpo) := ⟨_, _, _, rfl, rfl, rfl⟩

theorem rpe : Statement (.rpe) := ⟨_, _, _, rfl, rfl, rfl⟩

theorem rp : Statement (.rp) := ⟨_, _, _, rfl, rfl, rfl⟩

theorem rm : Statement (.rm) := ⟨_, _, _, rfl, rfl, rfl⟩

theorem rst (n : BitVec 3) : Statement (.rst n) := by
  have h : ∀ n : BitVec 3,
      n = 0 ∨ n = 1 ∨ n = 2 ∨ n = 3 ∨ n = 4 ∨ n = 5 ∨ n = 6 ∨ n = 7 := by decide
  obtain rfl | rfl | rfl | rfl | rfl | rfl | rfl | rfl := h n <;> exact ⟨_, _, _, rfl, rfl, rfl⟩

theorem pchl : Statement (.pchl) := ⟨_, _, _, rfl, rfl, rfl⟩

theorem push (rp : StackRp) : Statement (.push rp) := by
  cases rp <;> exact ⟨_, _, _, rfl, rfl, rfl⟩

theorem pop (rp : StackRp) : Statement (.pop rp) := by
  cases rp <;> exact ⟨_, _, _, rfl, rfl, rfl⟩

theorem nop : Statement (.nop) := ⟨_, _, _, rfl, rfl, rfl⟩

theorem hlt : Statement (.hlt) := ⟨_, _, _, rfl, rfl, rfl⟩

theorem ei : Statement (.ei) := ⟨_, _, _, rfl, rfl, rfl⟩

theorem di : Statement (.di) := ⟨_, _, _, rfl, rfl, rfl⟩

theorem outPort (port : Byte) : Statement (.outPort port) := ⟨_, _, _, rfl, rfl, rfl⟩

theorem inPort (port : Byte) : Statement (.inPort port) := ⟨_, _, _, rfl, rfl, rfl⟩

end Sys2Proof.Laws.EncodedLength
end

