-- ==== Sys2Proof/Laws/Step.lean ====
section
/-! SUPPORT. What a step can do, said once. -/

namespace Sys2Proof.Machine

/-- A step that answers a next state did nothing because the CPU is stopped, or ran the instruction
its bytes decode to. -/
theorem step_next_cases {s t : State} (h : step s = .next t) :
    (s.halted = true ∧ t = s) ∨
      (s.halted = false ∧ ∃ i rest, decode s.fetchBytes = .ok (i, rest) ∧ exec i s = .next t) := by
  unfold step at h
  split at h
  · next hh =>
    injection h with h
    exact .inl ⟨hh, h.symm⟩
  · next hh =>
    split at h
    · next i rest hd => exact .inr ⟨by simpa using hh, i, rest, hd, h⟩
    · exact absurd h (by simp)

/-- What the decoder answers for the three bytes of a fetch: an instruction, or the rejection of
the first byte. -/
theorem decode_three_cases (b0 b1 b2 : Byte) :
    (∃ i rest, decode [b0, b1, b2] = .ok (i, rest)) ∨
      (decodeOpcode b0 = none ∧ decode [b0, b1, b2] = .error (.undefinedOpcode b0)) := by
  cases h : decodeOpcode b0 with
  | none => exact .inr ⟨rfl, by simp [decode, h]⟩
  | some form =>
    cases form with
    | plain i => exact .inl ⟨i, [b1, b2], by simp only [decode, h]⟩
    | imm8 build => exact .inl ⟨build b1, [b2], by simp only [decode, h]⟩
    | imm16 build => exact .inl ⟨build (b2 ++ b1), [], by simp only [decode, h]⟩

/-- Storing bytes changes memory only. -/
theorem State.storeBytes_frame (s : State) (x : Word) (bytes : List Byte) :
    s.storeBytes x bytes = s.setMem (s.storeBytes x bytes).mem := by
  induction bytes generalizing s x with
  | nil => rfl
  | cons b rest ih =>
    show (s.writeByte x b).storeBytes (x + 1) rest = _
    rw [ih]
    rfl

theorem State.storeBytes_wf (s : State) (x : Word) (bytes : List Byte)
    (h : Memory.wf s.mem = true) : Memory.wf (s.storeBytes x bytes).mem = true := by
  induction bytes generalizing s x with
  | nil => exact h
  | cons b rest ih => exact ih (s.writeByte x b) (x + 1) (State.writeByte_wf s x b h)

end Sys2Proof.Machine
end

