-- ==== Sys2Proof/Tests/Slice0.lean ====
section
/-! SUPPORT. The model's own tests: ill-formed terms, words written out from the spec's encodings, one
step of each instruction (spec/95_test_vectors.md), and for each statement with hypotheses concrete
values that meet them. -/

namespace Sys2Proof.Tests

open Sys2Proof Sys2Proof.Machine

/-! ## Well-formed terms -/

theorem test_mov_m_m_is_ill_formed : (Instr.mov .m .m).wellFormed = false := by decide

/-- Its pattern is HLT's (30_encoding.md R51). -/
theorem test_mov_m_m_word_is_hlt :
    encode (.mov .m .m) = [0x76] ∧ encode .hlt = [0x76] ∧ Instr.hlt.wellFormed = true := by decide

theorem test_mov_to_and_from_memory_are_well_formed :
    (Instr.mov .m .a).wellFormed = true ∧ (Instr.mov .a .m).wellFormed = true := by decide

/-! ## Words written out from 30_encoding.md R43 to R49, one for each constructor at least -/

/-- The instruction that all of some bytes encode. -/
def decoded (bytes : List Byte) : Option Instr :=
  match decode bytes with
  | .ok (i, []) => some i
  | .ok (_, _ :: _) => none
  | .error _ => none

theorem test_data_transfer_words :
    List.map decoded
      [[0b01110111],
       [0b01000110],
       [0b00110110, 0x7E],
       [0b00011110, 0x01],
       [0b00010001, 0x34, 0x12],
       [0b00111010, 0x00, 0x20],
       [0b00110010, 0x01, 0x20],
       [0b00101010, 0xFF, 0xFE],
       [0b00100010, 0x02, 0x01],
       [0b00001010],
       [0b00010010],
       [0b11101011],
       [0b11100011],
       [0b11111001]] =
      [some (.mov .m .a),
       some (.mov .b .m),
       some (.mvi .m 0x7E),
       some (.mvi .e 0x01),
       some (.lxi .de 0x1234),
       some (.lda 0x2000),
       some (.sta 0x2001),
       some (.lhld 0xFEFF),
       some (.shld 0x0102),
       some (.ldax .bc),
       some (.stax .de),
       some .xchg,
       some .xthl,
       some .sphl] := by decide

theorem test_arithmetic_words :
    List.map decoded
      [[0b10000110],
       [0b10001001],
       [0b11000110, 0x9C],
       [0b11001110, 0x01],
       [0b10010111],
       [0b10011010],
       [0b11010110, 0x02],
       [0b11011110, 0x03],
       [0b00101100],
       [0b00100101],
       [0b00110011],
       [0b00001011],
       [0b00011001],
       [0b00100111]] =
      [some (.add .m),
       some (.adc .c),
       some (.adi 0x9C),
       some (.aci 0x01),
       some (.sub .a),
       some (.sbb .d),
       some (.sui 0x02),
       some (.sbi 0x03),
       some (.inr .l),
       some (.dcr .h),
       some (.inx .sp),
       some (.dcx .bc),
       some (.dad .de),
       some .daa] := by decide

theorem test_logical_words :
    List.map decoded
      [[0b10100011],
       [0b10101111],
       [0b10110110],
       [0b10111000],
       [0b11100110, 0x0F],
       [0b11101110, 0x81],
       [0b11110110, 0xF0],
       [0b11111110, 0x4B],
       [0b00000111],
       [0b00001111],
       [0b00010111],
       [0b00011111],
       [0b00101111],
       [0b00110111],
       [0b00111111]] =
      [some (.ana .e),
       some (.xra .a),
       some (.ora .m),
       some (.cmp .b),
       some (.ani 0x0F),
       some (.xri 0x81),
       some (.ori 0xF0),
       some (.cpi 0x4B),
       some .rlc,
       some .rrc,
       some .ral,
       some .rar,
       some .cma,
       some .stc,
       some .cmc] := by decide

theorem test_jump_words :
    List.map decoded
      [[0b11000011, 0x34, 0x12],
       [0b11000010, 0x34, 0x12],
       [0b11001010, 0x34, 0x12],
       [0b11010010, 0x34, 0x12],
       [0b11011010, 0x34, 0x12],
       [0b11100010, 0x34, 0x12],
       [0b11101010, 0x34, 0x12],
       [0b11110010, 0x34, 0x12],
       [0b11111010, 0x34, 0x12],
       [0b11101001]] =
      [some (.jmp 0x1234),
       some (.jnz 0x1234),
       some (.jz 0x1234),
       some (.jnc 0x1234),
       some (.jc 0x1234),
       some (.jpo 0x1234),
       some (.jpe 0x1234),
       some (.jp 0x1234),
       some (.jm 0x1234),
       some .pchl] := by decide

theorem test_call_words :
    List.map decoded
      [[0b11001101, 0x34, 0x12],
       [0b11000100, 0x34, 0x12],
       [0b11001100, 0x34, 0x12],
       [0b11010100, 0x34, 0x12],
       [0b11011100, 0x34, 0x12],
       [0b11100100, 0x34, 0x12],
       [0b11101100, 0x34, 0x12],
       [0b11110100, 0x34, 0x12],
       [0b11111100, 0x34, 0x12],
       [0b11000111],
       [0b11101111]] =
      [some (.call 0x1234),
       some (.cnz 0x1234),
       some (.cz 0x1234),
       some (.cnc 0x1234),
       some (.cc 0x1234),
       some (.cpo 0x1234),
       some (.cpe 0x1234),
       some (.cp 0x1234),
       some (.cm 0x1234),
       some (.rst 0),
       some (.rst 5)] := by decide

theorem test_return_words :
    List.map decoded
      [[0b11001001],
       [0b11000000],
       [0b11001000],
       [0b11010000],
       [0b11011000],
       [0b11100000],
       [0b11101000],
       [0b11110000],
       [0b11111000]] =
      [some .ret,
       some .rnz,
       some .rz,
       some .rnc,
       some .rc,
       some .rpo,
       some .rpe,
       some .rp,
       some .rm] := by decide

theorem test_stack_control_io_words :
    List.map decoded
      [[0b11000101],
       [0b11110101],
       [0b11010001],
       [0b11110001],
       [0b00000000],
       [0b01110110],
       [0b11111011],
       [0b11110011],
       [0b11010011, 0x10],
       [0b11011011, 0x01]] =
      [some (.push .bc),
       some (.push .psw),
       some (.pop .de),
       some (.pop .psw),
       some .nop,
       some .hlt,
       some .ei,
       some .di,
       some (.outPort 0x10),
       some (.inPort 0x01)] := by decide

/-- The 12 values of R52 are rejected by name, a missing operand byte too. -/
theorem test_rejected_words :
    List.map (fun op => decode [op, 0x00, 0x00]) undefinedOpcodes =
      List.map (fun op => Except.error (DecodeError.undefinedOpcode op)) undefinedOpcodes ∧
    decoded [0x3E] = none ∧ decoded [0xC3, 0x00] = none ∧ decoded [] = none := ⟨rfl, rfl, rfl, rfl⟩

/-- The table's numbering: the opcode byte in bits 7:0, operand bytes above, zero where the table gives
no bits. -/
theorem test_table_words :
    decodeTableWord 8 0x77 = some (.mov .m .a) ∧ decodeTableWord 16 0x5A3E = some (.mvi .a 0x5A) ∧
    decodeTableWord 24 0xBEEF31 = some (.lxi .sp 0xBEEF) ∧ decodeTableWord 8 0xC3 = some (.jmp 0) ∧
    decodeTableWord 8 0xDD = none := by decide

/-! ## One step of each instruction, from the vectors of 95_test_vectors.md -/

/-- Five flags from five binary digits S Z AC P CY. -/
def fl (n : Nat) : Flags :=
  { s := n.testBit 4, z := n.testBit 3, ac := n.testBit 2, p := n.testBit 1, cy := n.testBit 0 }

/-- A start at PC 0x0100 whose registers hold no zeros. -/
def start : State :=
  { a := 0xEE, b := 0xEE, c := 0xEE, d := 0xEE, e := 0xEE, h := 0xEE, l := 0xEE, sp := 0xEEEE,
    pc := 0x0100, flags := fl 0b11111, inte := false, halted := false, mem := [],
    params := Params.standard }

/-- The open arguments at their defaults but `AC_SUB = BORROW`. -/
def borrowing : Params := { Params.standard with acSub := .borrow }

/-- The open arguments at their defaults but `UNDEF_OPCODE = ALIAS_8080`. -/
def aliasing : Params := { Params.standard with undefOpcode := .alias8080 }

/-- A state with some bytes of data. -/
def put (data : List (Word × Byte)) (s : State) : State :=
  data.foldl (fun t x => t.writeByte x.1 x.2) s

/-- One step from `s` with an instruction's bytes at its PC. -/
def stepped (s : State) (bytes : List Byte) : Option State :=
  match step (s.storeBytes s.pc bytes) with
  | .next t => some t
  | .fault _ => none
  | .refused _ => none

/-! ### Data transfer -/

/-- V5, `MOV H, M`: H=0x12, L=0x34, mem[0x1234]=0xAB, PC=0x0100; flags 00000. -/
theorem test_mov_read_before_write :
    (stepped
      (put [(0x1234, 0xAB)] { start with h := 0x12, l := 0x34, flags := fl 0b00000 })
      [0x66]).map
      (fun t => (t.h, t.pc, t.flags)) =
    some (0xAB, 0x0101, fl 0b00000) := by decide

/-- V6, `MVI M, 0x7E`: H=0x30, L=0x00, PC=0x0100; flags 00000. -/
theorem test_mvi_to_memory :
    (stepped ({ start with h := 0x30, l := 0x00, flags := fl 0b00000 }) [0x36, 0x7E]).map
      (fun t => (t.pc, t.readByte 0x3000, t.flags)) =
    some (0x0102, 0x7E, fl 0b00000) := by decide

/-- V8, `LXI SP, 0xBEEF`: SP=0x0000, PC=0x0100; flags 00000. -/
theorem test_lxi_stack_pointer :
    (stepped ({ start with sp := 0x0000, flags := fl 0b00000 }) [0x31, 0xEF, 0xBE]).map
      (fun t => (t.sp, t.pc, t.flags)) =
    some (0xBEEF, 0x0103, fl 0b00000) := by decide

/-- V10, `LDA 0xFFFF`: A=0x00, mem[0xFFFF]=0x42, PC=0x0100; flags 00000. -/
theorem test_lda_top_address :
    (stepped
      (put [(0xFFFF, 0x42)] { start with a := 0x00, flags := fl 0b00000 })
      [0x3A, 0xFF, 0xFF]).map
      (fun t => (t.a, t.pc, t.flags)) =
    some (0x42, 0x0103, fl 0b00000) := by decide

/-- V11, `STA 0x0000`: A=0x77, PC=0x0100; flags 00000. -/
theorem test_sta :
    (stepped ({ start with a := 0x77, flags := fl 0b00000 }) [0x32, 0x00, 0x00]).map
      (fun t => (t.pc, t.readByte 0x0000, t.flags)) =
    some (0x0103, 0x77, fl 0b00000) := by decide

/-- V12, `LHLD 0xFFFF`: H=0x00, L=0x00, mem[0xFFFF]=0xCD, mem[0x0000]=0xAB, PC=0x0100; flags 00000. -/
theorem test_lhld_wraps :
    (stepped
      (put [(0xFFFF, 0xCD), (0x0000, 0xAB)] { start with h := 0x00, l := 0x00, flags := fl 0b00000 })
      [0x2A, 0xFF, 0xFF]).map
      (fun t => (t.h, t.l, t.pc, t.flags)) =
    some (0xAB, 0xCD, 0x0103, fl 0b00000) := by decide

/-- V13, `SHLD 0xFFFF`: H=0xAB, L=0xCD, PC=0x0100; flags 00000. -/
theorem test_shld_wraps :
    (stepped ({ start with h := 0xAB, l := 0xCD, flags := fl 0b00000 }) [0x22, 0xFF, 0xFF]).map
      (fun t => (t.pc, t.readByte 0xFFFF, t.readByte 0x0000, t.flags)) =
    some (0x0103, 0xCD, 0xAB, fl 0b00000) := by decide

/-- V14, `LDAX B`: A=0x00, B=0x12, C=0x34, mem[0x1234]=0x56, PC=0x0100; flags 00000. -/
theorem test_ldax_bc :
    (stepped
      (put [(0x1234, 0x56)] { start with a := 0x00, b := 0x12, c := 0x34, flags := fl 0b00000 })
      [0x0A]).map
      (fun t => (t.a, t.pc, t.flags)) =
    some (0x56, 0x0101, fl 0b00000) := by decide

/-- V17, `STAX D`: A=0x2E, D=0xFF, E=0xFF, PC=0x0100; flags 00000. -/
theorem test_stax_de :
    (stepped ({ start with a := 0x2E, d := 0xFF, e := 0xFF, flags := fl 0b00000 }) [0x12]).map
      (fun t => (t.pc, t.readByte 0xFFFF, t.flags)) =
    some (0x0101, 0x2E, fl 0b00000) := by decide

/-- V18, `XCHG`: D=0x11, E=0x22, H=0x33, L=0x44, PC=0x0100; flags 10101. -/
theorem test_xchg :
    (stepped
      ({ start with d := 0x11, e := 0x22, h := 0x33, l := 0x44, flags := fl 0b10101 })
      [0xEB]).map
      (fun t => (t.d, t.e, t.h, t.l, t.pc, t.flags)) =
    some (0x33, 0x44, 0x11, 0x22, 0x0101, fl 0b10101) := by decide

/-- V19, `XTHL`: H=0x0B, L=0x3C, SP=0xFFFF, mem[0xFFFF]=0xF0, mem[0x0000]=0x0D, PC=0x0100; flags 00000. -/
theorem test_xthl_wraps :
    (stepped
      (put [(0xFFFF, 0xF0), (0x0000, 0x0D)] { start with h := 0x0B, l := 0x3C, sp := 0xFFFF, flags := fl 0b00000 })
      [0xE3]).map
      (fun t => (t.h, t.l, t.pc, t.readByte 0xFFFF, t.readByte 0x0000, t.flags)) =
    some (0x0D, 0xF0, 0x0101, 0x3C, 0x0B, fl 0b00000) := by decide

/-- V20, `SPHL`: H=0x50, L=0x6C, SP=0x0000, PC=0x0100; flags 00000. -/
theorem test_sphl :
    (stepped ({ start with h := 0x50, l := 0x6C, sp := 0x0000, flags := fl 0b00000 }) [0xF9]).map
      (fun t => (t.sp, t.pc, t.flags)) =
    some (0x506C, 0x0101, fl 0b00000) := by decide

/-! ### Arithmetic -/

/-- V24, `ADD M`: A=0x08, H=0x02, L=0x00, mem[0x0200]=0x08, PC=0x0100; flags 00000. -/
theorem test_add_memory :
    (stepped
      (put [(0x0200, 0x08)] { start with a := 0x08, h := 0x02, l := 0x00, flags := fl 0b00000 })
      [0x86]).map
      (fun t => (t.a, t.pc, t.flags)) =
    some (0x10, 0x0101, fl 0b00100) := by decide

/-- V26, `ADC C`: A=0x0F, C=0x00, PC=0x0100; flags 00001. -/
theorem test_adc_takes_carry :
    (stepped ({ start with a := 0x0F, c := 0x00, flags := fl 0b00001 }) [0x89]).map
      (fun t => (t.a, t.pc, t.flags)) =
    some (0x10, 0x0101, fl 0b00100) := by decide

/-- V28, `ADI 0x9C`: A=0x64, PC=0x0100; flags 00000. -/
theorem test_adi_wraps :
    (stepped ({ start with a := 0x64, flags := fl 0b00000 }) [0xC6, 0x9C]).map
      (fun t => (t.a, t.pc, t.flags)) =
    some (0x00, 0x0102, fl 0b01111) := by decide

/-- V29, `ACI 0xFF`: A=0xFF, PC=0x0100; flags 00001. -/
theorem test_aci :
    (stepped ({ start with a := 0xFF, flags := fl 0b00001 }) [0xCE, 0xFF]).map
      (fun t => (t.pc, t.flags)) =
    some (0x0102, fl 0b10111) := by decide

/-- V31, `SUB B`: A=0x00, B=0x01, PC=0x0100; flags 00000. -/
theorem test_sub_borrows :
    (stepped ({ start with a := 0x00, b := 0x01, flags := fl 0b00000 }) [0x90]).map
      (fun t => (t.a, t.pc, t.flags)) =
    some (0xFF, 0x0101, fl 0b10011) := by decide

/-- V31, `SUB B` (AC_SUB = BORROW): A=0x00, B=0x01, PC=0x0100; flags 00000. -/
theorem test_sub_borrows_other_ac :
    (stepped
      ({ start with a := 0x00, b := 0x01, flags := fl 0b00000, params := borrowing })
      [0x90]).map
      (fun t => (t.a, t.pc, t.flags)) =
    some (0xFF, 0x0101, fl 0b10111) := by decide

/-- V36, `SBB C`: A=0x10, C=0x0F, PC=0x0100; flags 00001. -/
theorem test_sbb_wraps_with_borrow :
    (stepped ({ start with a := 0x10, c := 0x0F, flags := fl 0b00001 }) [0x99]).map
      (fun t => (t.a, t.pc, t.flags)) =
    some (0x00, 0x0101, fl 0b01010) := by decide

/-- V37, `SUI 0x01`: A=0x00, PC=0x0100; flags 00000. -/
theorem test_sui :
    (stepped ({ start with a := 0x00, flags := fl 0b00000 }) [0xD6, 0x01]).map
      (fun t => (t.a, t.pc, t.flags)) =
    some (0xFF, 0x0102, fl 0b10011) := by decide

/-- V38, `SBI 0x00`: A=0x00, PC=0x0100; flags 00001. -/
theorem test_sbi :
    (stepped ({ start with a := 0x00, flags := fl 0b00001 }) [0xDE, 0x00]).map
      (fun t => (t.a, t.pc, t.flags)) =
    some (0xFF, 0x0102, fl 0b10011) := by decide

/-- V43, `INR M`: H=0x02, L=0x00, mem[0x0200]=0x99, PC=0x0100; flags 00000. -/
theorem test_inr_memory :
    (stepped
      (put [(0x0200, 0x99)] { start with h := 0x02, l := 0x00, flags := fl 0b00000 })
      [0x34]).map
      (fun t => (t.pc, t.readByte 0x0200, t.flags)) =
    some (0x0101, 0x9A, fl 0b10010) := by decide

/-- V44, `DCR B`: B=0x00, PC=0x0100; flags 00000. -/
theorem test_dcr_wraps :
    (stepped ({ start with b := 0x00, flags := fl 0b00000 }) [0x05]).map
      (fun t => (t.b, t.pc, t.flags)) =
    some (0xFF, 0x0101, fl 0b10010) := by decide

/-- V51, `INX D`: D=0x38, E=0xFF, PC=0x0100; flags 00000. -/
theorem test_inx_carries_to_high_byte :
    (stepped ({ start with d := 0x38, e := 0xFF, flags := fl 0b00000 }) [0x13]).map
      (fun t => (t.d, t.e, t.pc, t.flags)) =
    some (0x39, 0x00, 0x0101, fl 0b00000) := by decide

/-- V53, `DCX H`: H=0x98, L=0x00, PC=0x0100; flags 00000. -/
theorem test_dcx_borrows_from_high_byte :
    (stepped ({ start with h := 0x98, l := 0x00, flags := fl 0b00000 }) [0x2B]).map
      (fun t => (t.h, t.l, t.pc, t.flags)) =
    some (0x97, 0xFF, 0x0101, fl 0b00000) := by decide

/-- V56, `DAD B`: B=0x33, C=0x9F, H=0xA1, L=0x7B, PC=0x0100; flags 11111. -/
theorem test_dad_carry_only :
    (stepped
      ({ start with b := 0x33, c := 0x9F, h := 0xA1, l := 0x7B, flags := fl 0b11111 })
      [0x09]).map
      (fun t => (t.h, t.l, t.pc, t.flags)) =
    some (0xD5, 0x1A, 0x0101, fl 0b11110) := by decide

/-- V59, `DAA`: A=0x9B, PC=0x0100; flags 00000. -/
theorem test_daa_high_digit_nine :
    (stepped ({ start with a := 0x9B, flags := fl 0b00000 }) [0x27]).map
      (fun t => (t.a, t.pc, t.flags)) =
    some (0x01, 0x0101, fl 0b00101) := by decide

/-! ### Logical -/

/-- V68, `ANA B`: A=0xFC, B=0x0F, PC=0x0100; flags 00001. -/
theorem test_ana :
    (stepped ({ start with a := 0xFC, b := 0x0F, flags := fl 0b00001 }) [0xA0]).map
      (fun t => (t.a, t.pc, t.flags)) =
    some (0x0C, 0x0101, fl 0b00110) := by decide

/-- V72, `XRA B`: A=0xFF, B=0x0F, PC=0x0100; flags 00101. -/
theorem test_xra :
    (stepped ({ start with a := 0xFF, b := 0x0F, flags := fl 0b00101 }) [0xA8]).map
      (fun t => (t.a, t.pc, t.flags)) =
    some (0xF0, 0x0101, fl 0b10010) := by decide

/-- V73, `ORA C`: A=0x33, C=0x0F, PC=0x0100; flags 00101. -/
theorem test_ora :
    (stepped ({ start with a := 0x33, c := 0x0F, flags := fl 0b00101 }) [0xB1]).map
      (fun t => (t.a, t.pc, t.flags)) =
    some (0x3F, 0x0101, fl 0b00010) := by decide

/-- V78, `CMP B`: A=0xE5, B=0x05, PC=0x0100; flags 00000. -/
theorem test_cmp_unsigned :
    (stepped ({ start with a := 0xE5, b := 0x05, flags := fl 0b00000 }) [0xB8]).map
      (fun t => (t.pc, t.flags)) =
    some (0x0101, fl 0b10100) := by decide

/-- V78, `CMP B` (AC_SUB = BORROW): A=0xE5, B=0x05, PC=0x0100; flags 00000. -/
theorem test_cmp_other_ac :
    (stepped
      ({ start with a := 0xE5, b := 0x05, flags := fl 0b00000, params := borrowing })
      [0xB8]).map
      (fun t => (t.pc, t.flags)) =
    some (0x0101, fl 0b10000) := by decide

/-- V82, `ANI 0x0F`: A=0x3A, PC=0x0100; flags 00001. -/
theorem test_ani :
    (stepped ({ start with a := 0x3A, flags := fl 0b00001 }) [0xE6, 0x0F]).map
      (fun t => (t.a, t.pc, t.flags)) =
    some (0x0A, 0x0102, fl 0b00110) := by decide

/-- V83, `XRI 0x81`: A=0x3B, PC=0x0100; flags 00101. -/
theorem test_xri :
    (stepped ({ start with a := 0x3B, flags := fl 0b00101 }) [0xEE, 0x81]).map
      (fun t => (t.a, t.pc, t.flags)) =
    some (0xBA, 0x0102, fl 0b10000) := by decide

/-- V84, `ORI 0x0F`: A=0xB5, PC=0x0100; flags 00101. -/
theorem test_ori :
    (stepped ({ start with a := 0xB5, flags := fl 0b00101 }) [0xF6, 0x0F]).map
      (fun t => (t.a, t.pc, t.flags)) =
    some (0xBF, 0x0102, fl 0b10000) := by decide

/-- V86, `CPI 0x4B`: A=0x4A, PC=0x0100; flags 00000. -/
theorem test_cpi_below :
    (stepped ({ start with a := 0x4A, flags := fl 0b00000 }) [0xFE, 0x4B]).map
      (fun t => (t.pc, t.flags)) =
    some (0x0102, fl 0b10011) := by decide

/-- V88, `RLC`: A=0xF2, PC=0x0100; flags 11110. -/
theorem test_rlc :
    (stepped ({ start with a := 0xF2, flags := fl 0b11110 }) [0x07]).map
      (fun t => (t.a, t.pc, t.flags)) =
    some (0xE5, 0x0101, fl 0b11111) := by decide

/-- V90, `RRC`: A=0xF2, PC=0x0100; flags 00001. -/
theorem test_rrc :
    (stepped ({ start with a := 0xF2, flags := fl 0b00001 }) [0x0F]).map
      (fun t => (t.a, t.pc, t.flags)) =
    some (0x79, 0x0101, fl 0b00000) := by decide

/-- V92, `RAL`: A=0xB5, PC=0x0100; flags 00000. -/
theorem test_ral :
    (stepped ({ start with a := 0xB5, flags := fl 0b00000 }) [0x17]).map
      (fun t => (t.a, t.pc, t.flags)) =
    some (0x6A, 0x0101, fl 0b00001) := by decide

/-- V94, `RAR`: A=0x6A, PC=0x0100; flags 00001. -/
theorem test_rar :
    (stepped ({ start with a := 0x6A, flags := fl 0b00001 }) [0x1F]).map
      (fun t => (t.a, t.pc, t.flags)) =
    some (0xB5, 0x0101, fl 0b00000) := by decide

/-- V96, `CMA`: A=0x51, PC=0x0100; flags 01010. -/
theorem test_cma :
    (stepped ({ start with a := 0x51, flags := fl 0b01010 }) [0x2F]).map
      (fun t => (t.a, t.pc, t.flags)) =
    some (0xAE, 0x0101, fl 0b01010) := by decide

/-- V97, `STC`: A=0x00, PC=0x0100; flags 11110. -/
theorem test_stc :
    (stepped ({ start with a := 0x00, flags := fl 0b11110 }) [0x37]).map
      (fun t => (t.pc, t.flags)) =
    some (0x0101, fl 0b11111) := by decide

/-- V100, `CMC`: PC=0x0100; flags 11110. -/
theorem test_cmc :
    (stepped ({ start with flags := fl 0b11110 }) [0x3F]).map
      (fun t => (t.pc, t.flags)) =
    some (0x0101, fl 0b11111) := by decide

/-! ### Branch -/

/-- V102, `JMP 0x1234`: PC=0xFFFE; flags 00000. -/
theorem test_jmp_straddles_top :
    (stepped ({ start with pc := 0xFFFE, flags := fl 0b00000 }) [0xC3, 0x34, 0x12]).map
      (fun t => (t.pc, t.flags)) =
    some (0x1234, fl 0b00000) := by decide

/-- V104, `JNZ 0x2000`: PC=0x0100; flags 00000. -/
theorem test_jnz_taken :
    (stepped ({ start with flags := fl 0b00000 }) [0xC2, 0x00, 0x20]).map
      (fun t => (t.pc, t.flags)) =
    some (0x2000, fl 0b00000) := by decide

/-- V103, `JNZ 0x2000`: PC=0x0100; flags 01000. -/
theorem test_jnz_not_taken :
    (stepped ({ start with flags := fl 0b01000 }) [0xC2, 0x00, 0x20]).map
      (fun t => (t.pc, t.flags)) =
    some (0x0103, fl 0b01000) := by decide

/-- V106, `JZ 0x2000`: PC=0x0100; flags 00000. -/
theorem test_jz_not_taken :
    (stepped ({ start with flags := fl 0b00000 }) [0xCA, 0x00, 0x20]).map
      (fun t => (t.pc, t.flags)) =
    some (0x0103, fl 0b00000) := by decide

/-- V108, `JNC 0x2000`: PC=0x0100; flags 00000. -/
theorem test_jnc_taken :
    (stepped ({ start with flags := fl 0b00000 }) [0xD2, 0x00, 0x20]).map
      (fun t => (t.pc, t.flags)) =
    some (0x2000, fl 0b00000) := by decide

/-- V110, `JC 0x2000`: PC=0x0100; flags 00000. -/
theorem test_jc_not_taken :
    (stepped ({ start with flags := fl 0b00000 }) [0xDA, 0x00, 0x20]).map
      (fun t => (t.pc, t.flags)) =
    some (0x0103, fl 0b00000) := by decide

/-- V112, `JPO 0x2000`: PC=0x0100; flags 00000. -/
theorem test_jpo_taken :
    (stepped ({ start with flags := fl 0b00000 }) [0xE2, 0x00, 0x20]).map
      (fun t => (t.pc, t.flags)) =
    some (0x2000, fl 0b00000) := by decide

/-- V113, `JPE 0x2000`: PC=0x0100; flags 00010. -/
theorem test_jpe_taken :
    (stepped ({ start with flags := fl 0b00010 }) [0xEA, 0x00, 0x20]).map
      (fun t => (t.pc, t.flags)) =
    some (0x2000, fl 0b00010) := by decide

/-- V116, `JP 0x2000`: PC=0x0100; flags 00000. -/
theorem test_jp_taken :
    (stepped ({ start with flags := fl 0b00000 }) [0xF2, 0x00, 0x20]).map
      (fun t => (t.pc, t.flags)) =
    some (0x2000, fl 0b00000) := by decide

/-- V117, `JM 0x2000`: PC=0x0100; flags 10000. -/
theorem test_jm_taken :
    (stepped ({ start with flags := fl 0b10000 }) [0xFA, 0x00, 0x20]).map
      (fun t => (t.pc, t.flags)) =
    some (0x2000, fl 0b10000) := by decide

/-- V120, `CALL 0x2000`: SP=0x0001, PC=0xFFFF; flags 00000. -/
theorem test_call_over_itself :
    (stepped
      ({ start with sp := 0x0001, pc := 0xFFFF, flags := fl 0b00000 })
      [0xCD, 0x00, 0x20]).map
      (fun t => (t.sp, t.pc, t.readByte 0x0000, t.readByte 0xFFFF, t.flags)) =
    some (0xFFFF, 0x2000, 0x00, 0x02, fl 0b00000) := by decide

/-- V122, `CNZ 0x2000`: SP=0x4000, PC=0x0100; flags 00000. -/
theorem test_cnz_taken :
    (stepped ({ start with sp := 0x4000, flags := fl 0b00000 }) [0xC4, 0x00, 0x20]).map
      (fun t => (t.sp, t.pc, t.readByte 0x3FFF, t.readByte 0x3FFE, t.flags)) =
    some (0x3FFE, 0x2000, 0x01, 0x03, fl 0b00000) := by decide

/-- V121, `CNZ 0x2000`: SP=0x4000, PC=0x0100; flags 01000. -/
theorem test_cnz_not_taken :
    (stepped ({ start with sp := 0x4000, flags := fl 0b01000 }) [0xC4, 0x00, 0x20]).map
      (fun t => (t.pc, t.flags)) =
    some (0x0103, fl 0b01000) := by decide

/-- V124, `CZ 0x2000`: SP=0x4000, PC=0x0100; flags 00000. -/
theorem test_cz_not_taken :
    (stepped ({ start with sp := 0x4000, flags := fl 0b00000 }) [0xCC, 0x00, 0x20]).map
      (fun t => (t.pc, t.flags)) =
    some (0x0103, fl 0b00000) := by decide

/-- V126, `CNC 0x2000`: SP=0x4000, PC=0x0100; flags 00000. -/
theorem test_cnc_taken :
    (stepped ({ start with sp := 0x4000, flags := fl 0b00000 }) [0xD4, 0x00, 0x20]).map
      (fun t => (t.sp, t.pc, t.readByte 0x3FFF, t.readByte 0x3FFE, t.flags)) =
    some (0x3FFE, 0x2000, 0x01, 0x03, fl 0b00000) := by decide

/-- V127, `CC 0x2000`: SP=0x4000, PC=0x0100; flags 00001. -/
theorem test_cc_taken :
    (stepped ({ start with sp := 0x4000, flags := fl 0b00001 }) [0xDC, 0x00, 0x20]).map
      (fun t => (t.sp, t.pc, t.readByte 0x3FFF, t.readByte 0x3FFE, t.flags)) =
    some (0x3FFE, 0x2000, 0x01, 0x03, fl 0b00001) := by decide

/-- V130, `CPO 0x2000`: SP=0x4000, PC=0x0100; flags 00000. -/
theorem test_cpo_taken :
    (stepped ({ start with sp := 0x4000, flags := fl 0b00000 }) [0xE4, 0x00, 0x20]).map
      (fun t => (t.sp, t.pc, t.readByte 0x3FFF, t.readByte 0x3FFE, t.flags)) =
    some (0x3FFE, 0x2000, 0x01, 0x03, fl 0b00000) := by decide

/-- V131, `CPE 0x2000`: SP=0x4000, PC=0x0100; flags 00010. -/
theorem test_cpe_taken :
    (stepped ({ start with sp := 0x4000, flags := fl 0b00010 }) [0xEC, 0x00, 0x20]).map
      (fun t => (t.sp, t.pc, t.readByte 0x3FFF, t.readByte 0x3FFE, t.flags)) =
    some (0x3FFE, 0x2000, 0x01, 0x03, fl 0b00010) := by decide

/-- V134, `CP 0x2000`: SP=0x4000, PC=0x0100; flags 00000. -/
theorem test_cp_taken :
    (stepped ({ start with sp := 0x4000, flags := fl 0b00000 }) [0xF4, 0x00, 0x20]).map
      (fun t => (t.sp, t.pc, t.readByte 0x3FFF, t.readByte 0x3FFE, t.flags)) =
    some (0x3FFE, 0x2000, 0x01, 0x03, fl 0b00000) := by decide

/-- V135, `CM 0x2000`: SP=0x4000, PC=0x0100; flags 10000. -/
theorem test_cm_taken :
    (stepped ({ start with sp := 0x4000, flags := fl 0b10000 }) [0xFC, 0x00, 0x20]).map
      (fun t => (t.sp, t.pc, t.readByte 0x3FFF, t.readByte 0x3FFE, t.flags)) =
    some (0x3FFE, 0x2000, 0x01, 0x03, fl 0b10000) := by decide

/-- V138, `RET`: SP=0xFFFF, mem[0xFFFF]=0x78, mem[0x0000]=0x56, PC=0x0100; flags 00000. -/
theorem test_ret_wraps :
    (stepped
      (put [(0xFFFF, 0x78), (0x0000, 0x56)] { start with sp := 0xFFFF, flags := fl 0b00000 })
      [0xC9]).map
      (fun t => (t.sp, t.pc, t.flags)) =
    some (0x0001, 0x5678, fl 0b00000) := by decide

/-- V140, `RNZ`: SP=0x3FFE, mem[0x3FFE]=0x03, mem[0x3FFF]=0x01, PC=0x0100; flags 00000. -/
theorem test_rnz_taken :
    (stepped
      (put [(0x3FFE, 0x03), (0x3FFF, 0x01)] { start with sp := 0x3FFE, flags := fl 0b00000 })
      [0xC0]).map
      (fun t => (t.sp, t.pc, t.flags)) =
    some (0x4000, 0x0103, fl 0b00000) := by decide

/-- V139, `RNZ`: SP=0x3FFE, mem[0x3FFE]=0x03, mem[0x3FFF]=0x01, PC=0x0100; flags 01000. -/
theorem test_rnz_not_taken :
    (stepped
      (put [(0x3FFE, 0x03), (0x3FFF, 0x01)] { start with sp := 0x3FFE, flags := fl 0b01000 })
      [0xC0]).map
      (fun t => (t.pc, t.flags)) =
    some (0x0101, fl 0b01000) := by decide

/-- V141, `RZ`: SP=0x3FFE, mem[0x3FFE]=0x03, mem[0x3FFF]=0x01, PC=0x0100; flags 01000. -/
theorem test_rz_taken :
    (stepped
      (put [(0x3FFE, 0x03), (0x3FFF, 0x01)] { start with sp := 0x3FFE, flags := fl 0b01000 })
      [0xC8]).map
      (fun t => (t.sp, t.pc, t.flags)) =
    some (0x4000, 0x0103, fl 0b01000) := by decide

/-- V144, `RNC`: SP=0x3FFE, mem[0x3FFE]=0x03, mem[0x3FFF]=0x01, PC=0x0100; flags 00000. -/
theorem test_rnc_taken :
    (stepped
      (put [(0x3FFE, 0x03), (0x3FFF, 0x01)] { start with sp := 0x3FFE, flags := fl 0b00000 })
      [0xD0]).map
      (fun t => (t.sp, t.pc, t.flags)) =
    some (0x4000, 0x0103, fl 0b00000) := by decide

/-- V146, `RC`: SP=0x3FFE, mem[0x3FFE]=0x03, mem[0x3FFF]=0x01, PC=0x0100; flags 00000. -/
theorem test_rc_not_taken :
    (stepped
      (put [(0x3FFE, 0x03), (0x3FFF, 0x01)] { start with sp := 0x3FFE, flags := fl 0b00000 })
      [0xD8]).map
      (fun t => (t.pc, t.flags)) =
    some (0x0101, fl 0b00000) := by decide

/-- V148, `RPO`: SP=0x3FFE, mem[0x3FFE]=0x03, mem[0x3FFF]=0x01, PC=0x0100; flags 00000. -/
theorem test_rpo_taken :
    (stepped
      (put [(0x3FFE, 0x03), (0x3FFF, 0x01)] { start with sp := 0x3FFE, flags := fl 0b00000 })
      [0xE0]).map
      (fun t => (t.sp, t.pc, t.flags)) =
    some (0x4000, 0x0103, fl 0b00000) := by decide

/-- V149, `RPE`: SP=0x3FFE, mem[0x3FFE]=0x03, mem[0x3FFF]=0x01, PC=0x0100; flags 00010. -/
theorem test_rpe_taken :
    (stepped
      (put [(0x3FFE, 0x03), (0x3FFF, 0x01)] { start with sp := 0x3FFE, flags := fl 0b00010 })
      [0xE8]).map
      (fun t => (t.sp, t.pc, t.flags)) =
    some (0x4000, 0x0103, fl 0b00010) := by decide

/-- V152, `RP`: SP=0x3FFE, mem[0x3FFE]=0x03, mem[0x3FFF]=0x01, PC=0x0100; flags 00000. -/
theorem test_rp_taken :
    (stepped
      (put [(0x3FFE, 0x03), (0x3FFF, 0x01)] { start with sp := 0x3FFE, flags := fl 0b00000 })
      [0xF0]).map
      (fun t => (t.sp, t.pc, t.flags)) =
    some (0x4000, 0x0103, fl 0b00000) := by decide

/-- V153, `RM`: SP=0x3FFE, mem[0x3FFE]=0x03, mem[0x3FFF]=0x01, PC=0x0100; flags 10000. -/
theorem test_rm_taken :
    (stepped
      (put [(0x3FFE, 0x03), (0x3FFF, 0x01)] { start with sp := 0x3FFE, flags := fl 0b10000 })
      [0xF8]).map
      (fun t => (t.sp, t.pc, t.flags)) =
    some (0x4000, 0x0103, fl 0b10000) := by decide

/-- V160, `RST 5`: SP=0x4000, PC=0x0250; flags 00000. -/
theorem test_rst_five :
    (stepped ({ start with sp := 0x4000, pc := 0x0250, flags := fl 0b00000 }) [0xEF]).map
      (fun t => (t.sp, t.pc, t.readByte 0x3FFF, t.readByte 0x3FFE, t.flags)) =
    some (0x3FFE, 0x0028, 0x02, 0x51, fl 0b00000) := by decide

/-- V164, `PCHL`: H=0x41, L=0x3E, PC=0x0100; flags 00000. -/
theorem test_pchl :
    (stepped ({ start with h := 0x41, l := 0x3E, flags := fl 0b00000 }) [0xE9]).map
      (fun t => (t.pc, t.flags)) =
    some (0x413E, fl 0b00000) := by decide

/-! ### Stack -/

/-- V168, `PUSH PSW`: A=0x00, SP=0x4000, PC=0x0100; flags 11111. -/
theorem test_push_psw :
    (stepped ({ start with a := 0x00, sp := 0x4000, flags := fl 0b11111 }) [0xF5]).map
      (fun t => (t.sp, t.pc, t.readByte 0x3FFF, t.readByte 0x3FFE, t.flags)) =
    some (0x3FFE, 0x0101, 0x00, 0xD7, fl 0b11111) := by decide

/-- V173, `POP PSW`: SP=0x3FFE, mem[0x3FFE]=0x2A, mem[0x3FFF]=0x56, PC=0x0100; flags 11111. -/
theorem test_pop_psw :
    (stepped
      (put [(0x3FFE, 0x2A), (0x3FFF, 0x56)] { start with sp := 0x3FFE, flags := fl 0b11111 })
      [0xF1]).map
      (fun t => (t.a, t.sp, t.pc, t.flags)) =
    some (0x56, 0x4000, 0x0101, fl 0b00000) := by decide

/-- V169, `POP B`: SP=0xFFFF, mem[0xFFFF]=0x34, mem[0x0000]=0x12, PC=0x0100; flags 00000. -/
theorem test_pop_bc_wraps :
    (stepped
      (put [(0xFFFF, 0x34), (0x0000, 0x12)] { start with sp := 0xFFFF, flags := fl 0b00000 })
      [0xC1]).map
      (fun t => (t.b, t.c, t.sp, t.pc, t.flags)) =
    some (0x12, 0x34, 0x0001, 0x0101, fl 0b00000) := by decide

/-! ### Control, input and output -/

/-- V174, `NOP`: PC=0xFFFF; flags 10101. -/
theorem test_nop_wraps :
    (stepped ({ start with pc := 0xFFFF, flags := fl 0b10101 }) [0x00]).map
      (fun t => (t.pc, t.flags)) =
    some (0x0000, fl 0b10101) := by decide

/-- V175, `HLT`: A=0x12, PC=0x0100; flags 00000. -/
theorem test_hlt :
    (stepped ({ start with a := 0x12, flags := fl 0b00000 }) [0x76]).map
      (fun t => (t.halted, t.pc, t.flags)) =
    some (true, 0x0101, fl 0b00000) := by decide

/-- V176, `EI`: INTE=0, PC=0x0100; flags 00000. -/
theorem test_ei :
    (stepped ({ start with inte := false, flags := fl 0b00000 }) [0xFB]).map
      (fun t => (t.inte, t.pc, t.flags)) =
    some (true, 0x0101, fl 0b00000) := by decide

/-- V178, `DI`: INTE=1, PC=0x0100; flags 00000. -/
theorem test_di :
    (stepped ({ start with inte := true, flags := fl 0b00000 }) [0xF3]).map
      (fun t => (t.inte, t.pc, t.flags)) =
    some (false, 0x0101, fl 0b00000) := by decide

/-- V179, `OUT 0xFF`: A=0xA5, PC=0x0100; flags 00000. -/
theorem test_outPort :
    (stepped ({ start with a := 0xA5, flags := fl 0b00000 }) [0xD3, 0xFF]).map
      (fun t => (t.pc, t.flags)) =
    some (0x0102, fl 0b00000) := by decide

/-- V180, `IN 0x00`: A=0x00, PC=0x0100; flags 01010. -/
theorem test_inPort :
    (stepped ({ start with a := 0x00, flags := fl 0b01010 }) [0xDB, 0x00]).map
      (fun t => (t.a, t.pc, t.flags)) =
    some (0xFF, 0x0102, fl 0b01010) := by decide

/-! ### The step around the instructions -/

/-- With 0x08 at PC a step faults under the default, and is a NOP under `ALIAS_8080` (R52). -/
theorem test_undefined_opcode :
    stepped start [0x08] = none ∧
    (stepped { start with params := aliasing } [0x08]).map (fun t => t.pc) = some 0x0101 := by decide

/-- An alias of CALL takes its operand bytes as CALL does (R52). -/
theorem test_alias_of_call :
    (stepped { start with params := aliasing } [0xED, 0x00, 0x20]).map
      (fun t => (t.pc, t.readByte 0xEEEC, t.readByte 0xEEED)) = some (0x2000, 0x03, 0x01) := by decide

/-- A stopped machine does not run the INR A after its HLT (the note to V175). -/
theorem test_stopped_stays :
    (stepped { start with halted := true } [0x3C]).map (fun t => (t.a, t.pc)) =
      some (0xEE, 0x0100) := by decide

/-- `withFetchWord` places `JMP 0x1234`, and the next step runs it. -/
theorem test_with_fetch_word :
    (match step (State.reset.withFetchWord 24 0x1234C3) with
      | .next t => t.pc
      | .fault _ => 0
      | .refused _ => 0) = 0x1234 := by decide

/-! ## Values that meet the hypotheses of the statements -/

/-- A state with data at both ends of memory, HL at the top, SP at the bottom. -/
def wit : State :=
  put [(0x0000, 0x15), (0xFFFF, 0x99)]
    { start with a := 0x48, b := 0x12, h := 0xFF, l := 0xFF, sp := 0x0000, pc := 0xFFFE,
                 flags := fl 0b00001 }

/-- `wit` with an instruction's bytes at its PC, which straddle 0xFFFF. -/
def witAt (bytes : List Byte) : State := wit.storeBytes wit.pc bytes

theorem witness_DecodeInvertsEncode :
    (Instr.mov .m .a).wellFormed = true ∧ (Instr.rst 7).wellFormed = true ∧
    (Instr.lxi .sp 0xFFFF).wellFormed = true := by decide

theorem witness_EncodeInvertsDecode :
    decode [0x31, 0xEF, 0xBE, 0x77] = .ok (.lxi .sp 0xBEEF, [0x77]) ∧
    decode [0xFF] = .ok (.rst 7, []) := ⟨rfl, rfl⟩

/-- One byte for each branch: undefined, cut short, and complete. -/
theorem witness_OpcodeByteDecidesLength :
    (0x08 : Byte) ∈ undefinedOpcodes ∧
    ((0xC3 : Byte) ∉ undefinedOpcodes ∧ [(0x00 : Byte)].length + 1 < opcodeLength 0xC3) ∧
    ((0xC3 : Byte) ∉ undefinedOpcodes ∧ ¬[(0x00 : Byte), 0x20].length + 1 < opcodeLength 0xC3) ∧
    ((0xFF : Byte) ∉ undefinedOpcodes ∧ ¬([] : List Byte).length + 1 < opcodeLength 0xFF) := by
  decide

theorem witness_StepRunsDecodedInstruction :
    (witAt [0xC3, 0x34, 0x12]).halted = false ∧
    decode [(witAt [0xC3, 0x34, 0x12]).readByte 0xFFFE, (witAt [0xC3, 0x34, 0x12]).readByte 0xFFFF,
      (witAt [0xC3, 0x34, 0x12]).readByte 0x0000] = .ok (.jmp 0x1234, []) := ⟨rfl, rfl⟩

theorem witness_StoppedMachineNeverMoves : ({ wit with halted := true } : State).halted = true := rfl

theorem witness_StepFaultsOnlyOnUndefinedOpcode :
    (witAt [0xFD]).halted = false ∧ (witAt [0xFD]).params.undefOpcode = .fault ∧
    (witAt [0xFD]).readByte (witAt [0xFD]).pc ∈ undefinedOpcodes := by decide

/-- A state under `ALIAS_8080` with a byte at PC. -/
def aliasAt (op : Byte) : State := { witAt [op, 0x34, 0x12] with params := aliasing }

/-- One byte for each of the four clauses, at both ends of each list. -/
theorem witness_AliasModeRunsTheAliases :
    (aliasAt 0x08).halted = false ∧ (aliasAt 0x08).params.undefOpcode = .alias8080 ∧
    (aliasAt 0x08).readByte 0xFFFE = 0x08 ∧ (aliasAt 0x38).readByte 0xFFFE = 0x38 ∧
    (aliasAt 0xCB).readByte 0xFFFE = 0xCB ∧ (aliasAt 0xD9).readByte 0xFFFE = 0xD9 ∧
    (aliasAt 0xDD).readByte 0xFFFE = 0xDD ∧ (aliasAt 0xFD).readByte 0xFFFE = 0xFD := by decide

/-- A storing step from a memory in canonical form. -/
theorem witness_StepKeepsMemoryCanonical :
    Memory.wf (witAt [0xC5]).mem = true ∧ ∃ t, step (witAt [0xC5]) = .next t := ⟨by decide, _, rfl⟩

theorem witness_ResetMemoryCanonical : Memory.wf [(0, 0x15), (65535, 0x99)] = true := by decide

theorem witness_EqualReadsAreEqualMemories :
    Memory.wf [(0, 0x15), (65535, 0x99)] = true ∧
    ∀ x : Word, Memory.get [(0, 0x15), (65535, 0x99)] x.toNat =
      Memory.get [(0, 0x15), (65535, 0x99)] x.toNat := ⟨by decide, fun _ => rfl⟩

/-- A step that stops the CPU and one that does not. -/
theorem witness_OnlyHltStopsTheCpu :
    ((witAt [0x76]).halted = false ∧ ∃ t, step (witAt [0x76]) = .next t) ∧
    ((witAt [0x00]).halted = false ∧ ∃ t, step (witAt [0x00]) = .next t) :=
  ⟨⟨rfl, _, rfl⟩, rfl, _, rfl⟩

/-- A state that goes on and one that faults. -/
theorem witness_InteIsNeverRead :
    (∃ t, step (witAt [0xFB]) = .next t) ∧ (∃ f, step (witAt [0xCB]) = .fault f) :=
  ⟨⟨_, rfl⟩, _, rfl⟩

/-- EI, DI and another instruction. -/
theorem witness_OnlyEiAndDiWriteInte :
    ((witAt [0xFB]).halted = false ∧ ∃ t, step (witAt [0xFB]) = .next t) ∧
    ((witAt [0xF3]).halted = false ∧ ∃ t, step (witAt [0xF3]) = .next t) ∧
    ((witAt [0x3C]).halted = false ∧ ∃ t, step (witAt [0x3C]) = .next t) :=
  ⟨⟨rfl, _, rfl⟩, ⟨rfl, _, rfl⟩, rfl, _, rfl⟩

/-- An instruction of each column. -/
theorem witness_FlagsChangeByTheirColumnOnly :
    (∃ t, exec .xchg wit = .next t) ∧ (∃ t, exec (.add .m) wit = .next t) ∧
    (∃ t, exec (.inr .m) wit = .next t) ∧ (∃ t, exec (.dad .sp) wit = .next t) ∧
    (∃ t, exec .stc wit = .next t) ∧ (∃ t, exec (.ana .a) wit = .next t) ∧
    (∃ t, exec (.xra .a) wit = .next t) :=
  ⟨⟨_, rfl⟩, ⟨_, rfl⟩, ⟨_, rfl⟩, ⟨_, rfl⟩, ⟨_, rfl⟩, ⟨_, rfl⟩, _, rfl⟩

/-- An instruction that stores, with an address outside its bytes, and one that stores nothing. -/
theorem witness_OnlyStoredBytesChange :
    ((∃ t, exec (.shld 0xFFFF) wit = .next t) ∧
      (0x0001 : Word) ∉ storedAddresses (.shld 0xFFFF) wit ∧
      (0xFFFE : Word) ∉ storedAddresses (.shld 0xFFFF) wit) ∧
    ((∃ t, exec (.cz 0x2000) wit = .next t) ∧ storedAddresses (.cz 0x2000) wit = []) :=
  ⟨⟨⟨_, rfl⟩, by decide, by decide⟩, ⟨_, rfl⟩, rfl⟩

/-- A register outside an instruction's list, and an instruction that does not write SP. -/
theorem witness_RegistersChangeOnlyAsListed :
    (∃ t, exec (.pop .de) wit = .next t) ∧ Reg8.c ≠ .m ∧ Reg8.c ∉ writtenRegisters (.pop .de) ∧
    (∃ t, exec (.inx .de) wit = .next t) ∧ mayWriteSp (.inx .de) = false :=
  ⟨⟨_, rfl⟩, by decide, by decide, ⟨_, rfl⟩, rfl⟩

theorem witness_SequentialInstructionsAdvance :
    isBranch (.lxi .sp 0xFFFF) = false ∧ Instr.lxi .sp 0xFFFF ≠ .hlt ∧
    ∃ t, exec (.lxi .sp 0xFFFF) wit = .next t := ⟨rfl, by decide, _, rfl⟩

theorem witness_MovCopiesOperand :
    ¬(Reg8.m = .m ∧ Reg8.a = .m) ∧ ¬(Reg8.a = .m ∧ Reg8.m = .m) := by decide

/-- ADD M, ADC A, ADI, ACI, with the carry in set. -/
theorem witness_AdditionsAddAndCarry :
    (∃ r, Instr.add .m = .add r ∧ (0x99 : Byte) = wit.readReg8 r ∧ (0 : Nat) = 0 ∧ (1 : Nat) = 1) ∧
    (∃ r, Instr.adc .a = .adc r ∧ (0x48 : Byte) = wit.readReg8 r ∧ (1 : Nat) = wit.flags.cy.toNat ∧
      (1 : Nat) = 1) ∧
    (Instr.adi 0xFF = .adi 0xFF ∧ (0 : Nat) = 0 ∧ (2 : Nat) = 2) ∧
    (Instr.aci 0xFF = .aci 0xFF ∧ (1 : Nat) = wit.flags.cy.toNat ∧ (2 : Nat) = 2) :=
  ⟨⟨.m, rfl, rfl, rfl, rfl⟩, ⟨.a, rfl, rfl, rfl, rfl⟩, ⟨rfl, rfl, rfl⟩, rfl, rfl, rfl⟩

/-- SUB M, SBB A, SUI, SBI, with the borrow in set, and a run of each `AC_SUB`. -/
theorem witness_SubtractionsSubtractAndBorrow :
    (∃ r, Instr.sub .m = .sub r ∧ (0x99 : Byte) = wit.readReg8 r ∧ (0 : Nat) = 0 ∧ (1 : Nat) = 1) ∧
    (∃ r, Instr.sbb .a = .sbb r ∧ (0x48 : Byte) = wit.readReg8 r ∧ (1 : Nat) = wit.flags.cy.toNat ∧
      (1 : Nat) = 1) ∧
    (Instr.sui 0xFF = .sui 0xFF ∧ (0 : Nat) = 0 ∧ (2 : Nat) = 2) ∧
    (Instr.sbi 0xFF = .sbi 0xFF ∧ (1 : Nat) = wit.flags.cy.toNat ∧ (2 : Nat) = 2) ∧
    wit.params.acSub = .noBorrow ∧
    ({ wit with params := borrowing } : State).params.acSub = .borrow :=
  ⟨⟨.m, rfl, rfl, rfl, rfl⟩, ⟨.a, rfl, rfl, rfl, rfl⟩, ⟨rfl, rfl, rfl⟩, ⟨rfl, rfl, rfl⟩, rfl, rfl⟩

theorem witness_DcrSubtractsOneKeepingCarry :
    wit.params.acSub = .noBorrow ∧
    ({ wit with params := borrowing } : State).params.acSub = .borrow := ⟨rfl, rfl⟩

/-- The four pairs. -/
theorem witness_DadAddsSixteenBits :
    (Rp.bc = .bc ∧ (0x12EE : Word) = wit.b ++ wit.c) ∧
    (Rp.de = .de ∧ (0xEEEE : Word) = wit.d ++ wit.e) ∧
    (Rp.hl = .hl ∧ (0xFFFF : Word) = wit.h ++ wit.l) ∧ (Rp.sp = .sp ∧ (0x0000 : Word) = wit.sp) :=
  ⟨⟨rfl, rfl⟩, ⟨rfl, rfl⟩, ⟨rfl, rfl⟩, rfl, rfl⟩

theorem witness_DefaultDaaAdjusts : wit.params.daaTable = [] := rfl

/-- 48 plus 99, without and with the carry in, by each of the four additions. -/
theorem witness_DaaMakesDecimalSums :
    48 < 100 ∧ 99 < 100 ∧ wit.a = bcdByte 48 ∧ wit.params.daaTable = [] ∧
    (∃ r, Instr.add .m = .add r ∧ wit.readReg8 r = bcdByte 99 ∧ (0 : Nat) = 0) ∧
    (∃ r, Instr.adc .m = .adc r ∧ wit.readReg8 r = bcdByte 99 ∧ (1 : Nat) = wit.flags.cy.toNat) ∧
    (Instr.adi (bcdByte 0) = .adi (bcdByte 0) ∧ (0 : Nat) = 0) ∧
    (Instr.aci (bcdByte 99) = .aci (bcdByte 99) ∧ (1 : Nat) = wit.flags.cy.toNat) :=
  ⟨by decide, by decide, rfl, rfl, ⟨.m, rfl, rfl, rfl⟩, ⟨.m, rfl, rfl, rfl⟩, ⟨rfl, rfl⟩, rfl, rfl⟩

/-- The six operations. -/
theorem witness_LogicalOperations :
    (∃ r, Instr.ana .m = .ana r ∧ (0x08 : Byte) = wit.a &&& wit.readReg8 r ∧ true = true ∧
      (1 : Nat) = 1) ∧
    (∃ r, Instr.xra .a = .xra r ∧ (0x00 : Byte) = wit.a ^^^ wit.readReg8 r ∧ false = false ∧
      (1 : Nat) = 1) ∧
    (∃ r, Instr.ora .b = .ora r ∧ (0x5A : Byte) = wit.a ||| wit.readReg8 r ∧ false = false ∧
      (1 : Nat) = 1) ∧
    (∃ d8, Instr.ani 0x0F = .ani d8 ∧ (0x08 : Byte) = wit.a &&& d8 ∧ true = true ∧ (2 : Nat) = 2) ∧
    (∃ d8, Instr.xri 0xFF = .xri d8 ∧ (0xB7 : Byte) = wit.a ^^^ d8 ∧ false = false ∧ (2 : Nat) = 2) ∧
    (∃ d8, Instr.ori 0xFF = .ori d8 ∧ (0xFF : Byte) = wit.a ||| d8 ∧ false = false ∧ (2 : Nat) = 2) :=
  ⟨⟨.m, rfl, rfl, rfl, rfl⟩, ⟨.a, rfl, rfl, rfl, rfl⟩, ⟨.b, rfl, rfl, rfl, rfl⟩,
    ⟨0x0F, rfl, rfl, rfl, rfl⟩, ⟨0xFF, rfl, rfl, rfl, rfl⟩, 0xFF, rfl, rfl, rfl, rfl⟩

theorem witness_ComparesSetFlagsOnly :
    (∃ r, Instr.cmp .m = .cmp r ∧ (0x99 : Byte) = wit.readReg8 r ∧ (1 : Nat) = 1) ∧
    (Instr.cpi 0xFF = .cpi 0xFF ∧ (2 : Nat) = 2) ∧ wit.params.acSub = .noBorrow ∧
    ({ wit with params := borrowing } : State).params.acSub = .borrow :=
  ⟨⟨.m, rfl, rfl, rfl⟩, ⟨rfl, rfl⟩, rfl, rfl⟩

/-- The eight conditions, taken and not, in `wit` (only CY set) and with every flag set. -/
theorem witness_ConditionalCalls :
    (Instr.cnz (0x20#8 ++ 0x00#8) = .cnz (0x20#8 ++ 0x00#8) ∧ (True ↔ wit.flags.z = false)) ∧
    (Instr.cz (0x20#8 ++ 0x00#8) = .cz (0x20#8 ++ 0x00#8) ∧ (False ↔ wit.flags.z = true)) ∧
    (Instr.cnc (0x20#8 ++ 0x00#8) = .cnc (0x20#8 ++ 0x00#8) ∧ (False ↔ wit.flags.cy = false)) ∧
    (Instr.cc (0x20#8 ++ 0x00#8) = .cc (0x20#8 ++ 0x00#8) ∧ (True ↔ wit.flags.cy = true)) ∧
    (Instr.cpo (0x20#8 ++ 0x00#8) = .cpo (0x20#8 ++ 0x00#8) ∧ (True ↔ wit.flags.p = false)) ∧
    (Instr.cpe (0x20#8 ++ 0x00#8) = .cpe (0x20#8 ++ 0x00#8) ∧ (True ↔ start.flags.p = true)) ∧
    (Instr.cp (0x20#8 ++ 0x00#8) = .cp (0x20#8 ++ 0x00#8) ∧ (False ↔ start.flags.s = false)) ∧
    (Instr.cm (0x20#8 ++ 0x00#8) = .cm (0x20#8 ++ 0x00#8) ∧ (True ↔ start.flags.s = true)) := by decide

theorem witness_ReturnsPopPc :
    (Instr.ret = .ret ∧ (True ↔ True)) ∧
    (Instr.rnz = .rnz ∧ (True ↔ wit.flags.z = false)) ∧
    (Instr.rz = .rz ∧ (False ↔ wit.flags.z = true)) ∧
    (Instr.rnc = .rnc ∧ (False ↔ wit.flags.cy = false)) ∧
    (Instr.rc = .rc ∧ (True ↔ wit.flags.cy = true)) ∧
    (Instr.rpo = .rpo ∧ (True ↔ wit.flags.p = false)) ∧
    (Instr.rpe = .rpe ∧ (True ↔ start.flags.p = true)) ∧
    (Instr.rp = .rp ∧ (False ↔ start.flags.s = false)) ∧
    (Instr.rm = .rm ∧ (True ↔ start.flags.s = true)) := by decide

/-- The addresses at the wrap: SP is 0x0000, the bytes land at 0xFFFF and 0xFFFE, another does not. -/
theorem witness_CallPushesReturnAddress :
    (0x0000 : Word) ≠ wit.sp - 1 ∧ (0x0000 : Word) ≠ wit.sp - 2 := by decide

/-- The four pairs, PSW under the default layout. -/
theorem witness_PushStoresPair :
    (StackRp.bc = .bc ∧ (0x12 : Byte) = wit.b ∧ (0xEE : Byte) = wit.c) ∧
    (StackRp.de = .de ∧ (0xEE : Byte) = wit.d ∧ (0xEE : Byte) = wit.e) ∧
    (StackRp.hl = .hl ∧ (0xFF : Byte) = wit.h ∧ (0xFF : Byte) = wit.l) ∧
    (StackRp.psw = .psw ∧ (0x48 : Byte) = wit.a ∧
      (0x03 : Byte) = packFlags wit.params.pswLayout wit.flags ∧
      wit.params.pswLayout = PswLayout.standard) :=
  ⟨⟨rfl, rfl, rfl⟩, ⟨rfl, rfl, rfl⟩, ⟨rfl, rfl, rfl⟩, rfl, rfl, rfl, rfl⟩

/-- The default layout, and another one that gives each flag a bit of its own. -/
theorem witness_PswRoundTrip :
    (wit.params.pswLayout.wf = true ∧ ∃ u, exec (.push .psw) wit = .next u) ∧
    PswLayout.wf { s := 0, z := 1, ac := 2, p := 3, cy := 7, fixed := 0x00 } = true :=
  ⟨⟨rfl, _, rfl⟩, rfl⟩

theorem witness_PswKeepsOnlyFlagBits : wit.params.pswLayout = PswLayout.standard := rfl

end Sys2Proof.Tests
end

/-! # Operands (10_state.md R8) -/

namespace Sys2Proof.Machine

/-- HL as the statements spell it: H above L (R9). -/
theorem State.hl_eq_append (s : State) : s.hl = s.h ++ s.l := rfl

/-- The decoder's table of operand codes inverts the encoder's. -/
theorem reg8_ofCode_code (r : Reg8) : Reg8.ofCode r.code = r := by
  cases r <;> rfl

/-- An operand write meets the rule of R8, `M` through HL as it was before the write. -/
theorem State.writeReg8_wroteOperand (s : State) (r : Reg8) (v : Byte) :
    WroteOperand r v s (s.writeReg8 r v) := by
  obtain ⟨hsp, -, -, hinte, hhalted, hparams⟩ := s.writeReg8_frame r v
  refine ⟨fun q hq => s.readReg8_writeReg8 r q v hq, fun x => ?_, hsp, hinte, hhalted, hparams⟩
  rw [s.readByte_writeReg8 r v x, s.hl_eq_append]

/-- Settles O21: the reads and the two code tables case by case, the writes by the law of operand
writes and its frame. -/
theorem operandCodesSelect : Obligations.OperandCodesSelect := by
  unfold Obligations.OperandCodesSelect
  refine ⟨fun s => ?reads, ?codes, reg8_ofCode_code, fun s r v => ?writes⟩
  case reads => simp only [List.map, State.readReg8, State.hl_eq_append]
  case codes => rfl
  case writes =>
    obtain ⟨-, hpc, hflags, -, -, -⟩ := s.writeReg8_frame r v
    exact ⟨s.writeReg8_wroteOperand r v, hflags, hpc⟩

end Sys2Proof.Machine

/-! # Data transfer (40_data_transfer.md): MVI, LDA, STA -/

namespace Sys2Proof.Machine

/-! ### The decoder by the form of the opcode byte (30_encoding.md R41, R48) -/

/-- An opcode byte that awaits d8 takes the next byte. -/
theorem decodesTo_of_imm8 {op : Byte} {build : Byte → Instr}
    (h : decodeOpcode op = some (.imm8 build)) (d8 : Byte) :
    DecodesTo [op, d8] (build d8) := fun rest => by
  simp only [decode, List.cons_append, List.nil_append, h]

/-- An opcode byte that awaits d16 or a16 takes the next two bytes, low byte first. -/
theorem decodesTo_of_imm16 {op : Byte} {build : Word → Instr}
    (h : decodeOpcode op = some (.imm16 build)) (lo hi : Byte) :
    DecodesTo [op, lo, hi] (build (hi ++ lo)) := fun rest => by
  simp only [decode, List.cons_append, List.nil_append, h]

/-- `00 DDD 110` is the opcode byte of MVI, for every operand (R44, R57). -/
theorem decodeOpcode_mvi (dst : Reg8) :
    decodeOpcode (BitVec.ofNat 8 (0x06 + 8 * dst.code.toNat)) = some (.imm8 (.mvi dst)) := by
  cases dst <;> rfl

/-! ### What the three instructions answer -/

theorem exec_mvi (dst : Reg8) (d8 : Byte) (s : State) :
    exec (.mvi dst d8) s = .next ((s.writeReg8 dst d8).advance 2) := rfl

theorem exec_lda (a16 : Word) (s : State) :
    exec (.lda a16) s = .next ((s.setA (s.readByte a16)).advance 3) := rfl

theorem exec_sta (a16 : Word) (s : State) :
    exec (.sta a16) s = .next ((s.writeByte a16 s.a).advance 3) := rfl

/-! ### Moving PC on after an operand write -/

@[simp] theorem State.readReg8_advance (s : State) (n : Nat) (q : Reg8) :
    (s.advance n).readReg8 q = s.readReg8 q := by
  cases q <;> rfl

/-- The operand rule of R8 leaves PC to the caller, so it survives `pc <- npc`. -/
theorem WroteOperand.advance {r : Reg8} {v : Byte} {s t : State} (h : WroteOperand r v s t)
    (n : Nat) : WroteOperand r v s (t.advance n) := by
  obtain ⟨hreg, hmem, hframe⟩ := h
  refine ⟨fun q hq => ?_, fun x => ?_, hframe⟩
  · rw [State.readReg8_advance, hreg q hq]
  · rw [State.readByte_advance, hmem x]

/-- Settles O23: the operand write of R8, then PC on by 2. -/
theorem mviLoadsImmediate : Obligations.MviLoadsImmediate := by
  unfold Obligations.MviLoadsImmediate
  intro dst d8 s
  obtain ⟨-, hpc, hflags, -⟩ := s.writeReg8_frame dst d8
  refine ⟨decodesTo_of_imm8 (decodeOpcode_mvi dst) d8, _, exec_mvi dst d8 s,
    (s.writeReg8_wroteOperand dst d8).advance 2, hflags, ?pc⟩
  case pc => exact congrArg (· + 2) hpc

/-- Settles O25: LDA is one register update, STA one byte write, each with PC on by 3. -/
theorem ldaStaMoveAccumulator : Obligations.LdaStaMoveAccumulator := by
  unfold Obligations.LdaStaMoveAccumulator
  intro lo hi s
  refine ⟨⟨?ldaBytes, exec_lda (hi ++ lo) s⟩, ?staBytes, _, exec_sta (hi ++ lo) s,
    fun x => ?stored, ?frame⟩
  case ldaBytes => exact decodesTo_of_imm16 (build := .lda) rfl lo hi
  case staBytes => exact decodesTo_of_imm16 (build := .sta) rfl lo hi
  case stored => rw [State.readByte_advance, State.readByte_writeByte]
  case frame => rfl

end Sys2Proof.Machine

/-! # Rotates and carry (42_logical.md R95 to R101) -/

namespace Sys2Proof.Machine

/-! ### Decoding and repeating an instruction -/

/-- An opcode byte that awaits no operand is the whole instruction. -/
theorem decodesTo_of_plain {op : Byte} {i : Instr} (h : decodeOpcode op = some (.plain i)) :
    DecodesTo [op] i := fun rest => by
  simp only [decode, List.cons_append, List.nil_append, h]

/-- An instruction that always completes, repeated, is its state update iterated. -/
theorem execSeq_replicate {i : Instr} {f : State → State} (h : ∀ s, exec i s = .next (f s))
    (n : Nat) (s : State) : execSeq (List.replicate n i) s = some (f^[n] s) := by
  induction n generalizing s with
  | zero => rfl
  | succ n ih => simp only [List.replicate_succ, execSeq, h, ih, Function.iterate_succ_apply]

theorem State.advance_zero (s : State) : s.advance 0 = s := by
  simp only [State.advance, State.npc, BitVec.add_zero]
  rfl

theorem State.advance_advance (s : State) (m n : Nat) :
    (s.advance m).advance n = s.advance (m + n) := by
  simp only [State.advance, State.setPc, State.npc, BitVec.ofNat_add, BitVec.add_assoc]

/-! ### Rotating a vector (any width) -/

theorem rotateLeft_zero {w : Nat} (v : BitVec w) : v.rotateLeft 0 = v := by
  ext i hi
  simp [BitVec.getElem_rotateLeft]

theorem rotateLeft_width {w : Nat} (v : BitVec w) : v.rotateLeft w = v := by
  rw [← BitVec.rotateLeft_mod_eq_rotateLeft, Nat.mod_self, rotateLeft_zero]

theorem rotateLeft_rotateLeft_one {w : Nat} (v : BitVec w) (n : Nat) :
    (v.rotateLeft n).rotateLeft 1 = v.rotateLeft (n + 1) := by
  ext i hi
  have hn : n % w < w := Nat.mod_lt n (by omega)
  obtain rfl | hw : w = 1 ∨ 1 < w := by omega
  · simp [Nat.mod_one]
  have hone : 1 % w = 1 := Nat.mod_eq_of_lt hw
  have hsucc : (n + 1) % w = if n % w + 1 = w then 0 else n % w + 1 := by
    rw [Nat.add_mod, hone]
    split
    · next h => rw [h, Nat.mod_self]
    · next h => exact Nat.mod_eq_of_lt (by omega)
  simp only [BitVec.getElem_rotateLeft, hone, hsucc]
  split_ifs <;> congr 1 <;> omega

/-! ### A shifted by one, with a bit taken in -/

/-- `v` shifted left, `b` into bit 0: the new A of RLC and RAL. -/
def shiftLeftIn (v : Byte) (b : Bool) : Byte := (v <<< 1) ||| bitByte b

/-- `v` shifted right, `b` into bit 7: the new A of RRC and RAR. -/
def shiftRightIn (v : Byte) (b : Bool) : Byte := (v >>> 1) ||| (bitByte b <<< 7)

theorem toNat_bitByte (b : Bool) : (bitByte b).toNat = b.toNat := by
  cases b <;> rfl

theorem toNat_shiftLeftIn (v : Byte) (b : Bool) :
    (shiftLeftIn v b).toNat = v.toNat * 2 % 256 + b.toNat := by
  have hb : b.toNat < 2 ^ 1 := Nat.lt_succ_of_le b.toNat_le
  have hshift : v.toNat <<< 1 % 2 ^ 8 = 2 ^ 1 * (v.toNat % 128) := by omega
  rw [shiftLeftIn, BitVec.toNat_or, BitVec.toNat_shiftLeft, toNat_bitByte, hshift,
    ← Nat.two_pow_add_eq_or_of_lt hb]
  omega

theorem toNat_shiftRightIn (v : Byte) (b : Bool) :
    (shiftRightIn v b).toNat = v.toNat / 2 + 128 * b.toNat := by
  have hv : v.toNat / 2 < 2 ^ 7 := by have := v.isLt; omega
  have hb : b.toNat <<< 7 % 2 ^ 8 = 2 ^ 7 * b.toNat := by have := b.toNat_le; omega
  rw [shiftRightIn, BitVec.toNat_or, BitVec.toNat_ushiftRight, BitVec.toNat_shiftLeft,
    toNat_bitByte, hb, Nat.or_comm, Nat.shiftRight_one, ← Nat.two_pow_add_eq_or_of_lt hv]
  omega

theorem toNat_getLsbD_zero (v : Byte) : (v.getLsbD 0).toNat = v.toNat % 2 := by
  rw [BitVec.getLsbD, Nat.toNat_testBit, Nat.pow_zero, Nat.div_one]

theorem toNat_getLsbD_seven (v : Byte) : (v.getLsbD 7).toNat = v.toNat / 128 := by
  have := v.isLt
  rw [BitVec.getLsbD, Nat.toNat_testBit]
  omega

theorem getLsbD_bitByte (b : Bool) (i : Nat) :
    (bitByte b).getLsbD i = (decide (i = 0) && b) := by
  cases b with
  | false => simp [bitByte]
  | true => simp [bitByte, BitVec.getLsbD_one]

theorem getElem_shiftLeftIn_zero (v : Byte) (b : Bool) : (shiftLeftIn v b)[0] = b := by
  simp [shiftLeftIn, ← BitVec.getLsbD_eq_getElem, getLsbD_bitByte]

theorem getElem_shiftLeftIn_succ (v : Byte) (b : Bool) {i : Nat} (hi : i + 1 < 8) :
    (shiftLeftIn v b)[i + 1] = v[i] := by
  simp [shiftLeftIn, ← BitVec.getLsbD_eq_getElem, getLsbD_bitByte, hi]

/-- Taking bit 7 back in at bit 0 rotates the byte (R95). -/
theorem shiftLeftIn_bit7 (v : Byte) : shiftLeftIn v (v.getLsbD 7) = v.rotateLeft 1 := by
  ext i hi
  cases i with
  | zero => simp [getElem_shiftLeftIn_zero, BitVec.getElem_rotateLeft]
  | succ i => simp [getElem_shiftLeftIn_succ, BitVec.getElem_rotateLeft]

/-- CY:A, the 9 bits that RAL rotates (R97). -/
def State.carryA (s : State) : BitVec 9 := BitVec.cons s.flags.cy s.a

/-- CY and A from the 9 bits CY:A. -/
def State.setCarryA (s : State) (v : BitVec 9) : State := s.setRotate (v.setWidth 8) v.msb

theorem State.setCarryA_carryA (s : State) : s.setCarryA s.carryA = s := by
  simp only [State.setCarryA, State.carryA, BitVec.setWidth_cons, BitVec.msb_cons]
  rfl

theorem State.carryA_setCarryA (s : State) (v : BitVec 9) : (s.setCarryA v).carryA = v :=
  BitVec.cons_msb_setWidth v

/-- Taking CY in at bit 0 of A is the 9-bit rotate of CY:A: the old bit 7 becomes CY (R97). -/
theorem State.setRotate_shiftLeftIn_cy (s : State) :
    s.setRotate (shiftLeftIn s.a s.flags.cy) (s.a.getLsbD 7) =
      s.setCarryA (s.carryA.rotateLeft 1) := by
  have hlow : (s.carryA.rotateLeft 1).setWidth 8 = shiftLeftIn s.a s.flags.cy := by
    ext i hi
    cases i with
    | zero =>
      simp [getElem_shiftLeftIn_zero, BitVec.getElem_rotateLeft, State.carryA, BitVec.getElem_cons]
    | succ i =>
      have hi9 : i + 1 < 9 := by omega
      have hne : i ≠ 8 := by omega
      simp [getElem_shiftLeftIn_succ, State.carryA, BitVec.getElem_cons, hi9, hne]
  have hmsb : (s.carryA.rotateLeft 1).msb = s.a.getLsbD 7 := by
    simp [BitVec.msb_eq_getLsbD_last, BitVec.getElem_rotateLeft, State.carryA, BitVec.getElem_cons]
  rw [State.setCarryA, hlow, hmsb]

/-! ### What the seven instructions answer -/

theorem exec_rlc (s : State) : exec .rlc s =
    .next ((s.setRotate (shiftLeftIn s.a (s.a.getLsbD 7)) (s.a.getLsbD 7)).advance 1) := rfl

theorem exec_rrc (s : State) : exec .rrc s =
    .next ((s.setRotate (shiftRightIn s.a (s.a.getLsbD 0)) (s.a.getLsbD 0)).advance 1) := rfl

theorem exec_ral (s : State) : exec .ral s =
    .next ((s.setRotate (shiftLeftIn s.a s.flags.cy) (s.a.getLsbD 7)).advance 1) := rfl

theorem exec_rar (s : State) : exec .rar s =
    .next ((s.setRotate (shiftRightIn s.a s.flags.cy) (s.a.getLsbD 0)).advance 1) := rfl

theorem exec_cma (s : State) : exec .cma s = .next ((s.setA (s.a ^^^ 0xFF)).advance 1) := rfl

theorem exec_stc (s : State) :
    exec .stc s = .next ((s.setFlags (carryFlag s.flags true)).advance 1) := rfl

theorem exec_cmc (s : State) :
    exec .cmc s = .next ((s.setFlags (carryFlag s.flags (!s.flags.cy))).advance 1) := rfl

/-! ### RLC and RAL repeated -/

/-- The next state of RLC. -/
def State.rlc (s : State) : State :=
  (s.setRotate (shiftLeftIn s.a (s.a.getLsbD 7)) (s.a.getLsbD 7)).advance 1

/-- The next state of RAL. -/
def State.ral (s : State) : State := (s.setCarryA (s.carryA.rotateLeft 1)).advance 1

theorem exec_ral_eq_ral (s : State) : exec .ral s = .next s.ral := by
  rw [exec_ral, s.setRotate_shiftLeftIn_cy, State.ral]

/-- RAL after CY:A was set rotates what was set. -/
theorem State.ral_setCarryA_advance (s : State) (v : BitVec 9) (n : Nat) :
    ((s.setCarryA v).advance n).ral = (s.setCarryA (v.rotateLeft 1)).advance (n + 1) := by
  have hread : ((s.setCarryA v).advance n).carryA = v := s.carryA_setCarryA v
  rw [State.ral, hread, ← State.advance_advance]
  rfl

/-- `n` RLC rotate A by `n` bits. -/
theorem State.iterate_rlc_a (s : State) (n : Nat) :
    (State.rlc^[n] s).a = s.a.rotateLeft n := by
  induction n with
  | zero => exact (rotateLeft_zero s.a).symm
  | succ n ih =>
    calc (State.rlc^[n + 1] s).a
      _ = (State.rlc (State.rlc^[n] s)).a := by rw [Function.iterate_succ_apply']
      _ = (State.rlc^[n] s).a.rotateLeft 1 := shiftLeftIn_bit7 _
      _ = s.a.rotateLeft (n + 1) := by rw [ih, rotateLeft_rotateLeft_one]

/-- `n` RAL rotate CY:A by `n` bits and change nothing else but PC. -/
theorem State.iterate_ral (s : State) (n : Nat) :
    State.ral^[n] s = (s.setCarryA (s.carryA.rotateLeft n)).advance n := by
  induction n with
  | zero =>
    rw [Function.iterate_zero_apply, rotateLeft_zero, s.setCarryA_carryA, s.advance_zero]
  | succ n ih =>
    rw [Function.iterate_succ_apply', ih, State.ral_setCarryA_advance, rotateLeft_rotateLeft_one]

/-- Settles O42: A by the complement law, the flags by the model's carry update. -/
theorem complementAndCarry : Obligations.ComplementAndCarry := by
  unfold Obligations.ComplementAndCarry
  refine ⟨⟨decodesTo_of_plain rfl, decodesTo_of_plain rfl, decodesTo_of_plain rfl⟩,
    fun s => ⟨?cma, exec_stc s, exec_cmc s⟩⟩
  have hcompl : s.a ^^^ 0xFF = 255 - s.a := by
    calc s.a ^^^ 0xFF
      _ = ~~~s.a := BitVec.xor_allOnes
      _ = 255 - s.a := (BitVec.allOnes_sub_eq_not s.a).symm
  rw [exec_cma, hcompl]
  rfl

/-- Settles O41: A by the two shifts, the repetitions by iterating the rotates of A and of CY:A. -/
theorem rotatesMoveOneBit : Obligations.RotatesMoveOneBit := by
  unfold Obligations.RotatesMoveOneBit
  refine ⟨⟨decodesTo_of_plain rfl, decodesTo_of_plain rfl, decodesTo_of_plain rfl,
    decodesTo_of_plain rfl⟩, fun s => ⟨⟨_, exec_rlc s, ?rlc, rfl, rfl⟩,
    ⟨_, exec_rrc s, ?rrc, rfl, rfl⟩, ⟨_, exec_ral s, toNat_shiftLeftIn s.a s.flags.cy, rfl, rfl⟩,
    ⟨_, exec_rar s, toNat_shiftRightIn s.a s.flags.cy, rfl, rfl⟩,
    ⟨_, execSeq_replicate (f := State.rlc) exec_rlc 8 s, ?eightRlc⟩, ?nineRal⟩⟩
  case rlc => exact toNat_getLsbD_seven s.a ▸ toNat_shiftLeftIn s.a (s.a.getLsbD 7)
  case rrc => exact toNat_getLsbD_zero s.a ▸ toNat_shiftRightIn s.a (s.a.getLsbD 0)
  case eightRlc => rw [s.iterate_rlc_a, rotateLeft_width]
  case nineRal =>
    rw [execSeq_replicate exec_ral_eq_ral, s.iterate_ral, rotateLeft_width, s.setCarryA_carryA]
    rfl

end Sys2Proof.Machine

/-! # Branch (43_branch.md R102 to R111, R131): the conditions and the jumps -/

namespace Sys2Proof

/-! ### The condition table (R102) -/

/-- What the table of R102 asks of the flags, row by row. -/
def Cond.Asks (cond : Cond) (f : Flags) : Prop :=
  match cond with
  | .nz => f.z = false
  | .z => f.z = true
  | .nc => f.cy = false
  | .c => f.cy = true
  | .po => f.p = false
  | .pe => f.p = true
  | .p => f.s = false
  | .m => f.s = true

/-- The code of a condition, the `CCC` field (R46). -/
def Cond.code (cond : Cond) : BitVec 3 :=
  match cond with
  | .nz => 0b000
  | .z => 0b001
  | .nc => 0b010
  | .c => 0b011
  | .po => 0b100
  | .pe => 0b101
  | .p => 0b110
  | .m => 0b111

end Sys2Proof

namespace Sys2Proof.Machine

theorem condHolds_iff_asks (cond : Cond) (f : Flags) :
    condHolds cond f = true ↔ cond.Asks f := by
  cases cond with
  | z | c | pe | m => exact Iff.rfl
  | nz | nc | po | p => exact Iff.of_eq (Bool.not_eq_true' _)

/-- Settles O43: a flag read or negated per row, and the decoder's table of codes. -/
theorem conditionTable : Obligations.ConditionTable := by
  unfold Obligations.ConditionTable
  intro f
  have row (cond : Cond) : condHolds cond f = true ↔ cond.Asks f := condHolds_iff_asks cond f
  exact ⟨row .nz, row .z, row .nc, row .c, row .po, row .pe, row .p, row .m, rfl⟩

/-! ### The unconditional jumps (R103, R131) -/

theorem exec_jmp (a16 : Word) (s : State) : exec (.jmp a16) s = .next (s.setPc a16) := rfl

theorem exec_pchl (s : State) : exec .pchl s = .next (s.setPc s.hl) := rfl

/-- Settles O44: each is one update of PC, PCHL's with the pair HL as it stands in H and L. -/
theorem jumpsWritePc : Obligations.JumpsWritePc := by
  unfold Obligations.JumpsWritePc
  intro lo hi s
  refine ⟨?jmpBytes, exec_jmp (hi ++ lo) s, decodesTo_of_plain rfl, ?pchl⟩
  case jmpBytes => exact decodesTo_of_imm16 (build := .jmp) rfl lo hi
  case pchl =>
    rw [exec_pchl, s.hl_eq_append]
    rfl

/-! ### The conditional jumps (R104 to R111), by their condition -/

/-- `11 CCC 010` is the opcode byte of the jump on `CCC` (R46). -/
theorem decodeOpcode_jumpOn (cond : Cond) :
    decodeOpcode (0b11#2 ++ cond.code ++ 0b010#3) = some (.imm16 (jumpOn cond)) := by
  cases cond <;> rfl

theorem decodesTo_jumpOn (cond : Cond) (lo hi : Byte) :
    DecodesTo [0b11#2 ++ cond.code ++ 0b010#3, lo, hi] (jumpOn cond (hi ++ lo)) :=
  decodesTo_of_imm16 (decodeOpcode_jumpOn cond) lo hi

theorem exec_jumpOn (cond : Cond) (a16 : Word) (s : State) :
    exec (jumpOn cond a16) s = .next (s.jumpIf cond a16) := by
  cases cond <;> rfl

/-- A conditional jump as one update of PC, with the condition in any spelling `P`. -/
theorem State.jumpIf_eq_of_iff {cond : Cond} {s : State} {P : Prop} [Decidable P]
    (hP : condHolds cond s.flags = true ↔ P) (target : Word) :
    s.jumpIf cond target = { s with pc := if P then target else s.pc + 3 } := by
  obtain ⟨hcond, hjump⟩ | ⟨hcond, hjump⟩ := s.jumpIf_cases cond target
  · rw [hjump, if_pos (hP.mp hcond)]
    rfl
  · have hnot : ¬ P := fun h => Bool.eq_false_iff.mp hcond (hP.mpr h)
    rw [hjump, if_neg hnot]
    rfl

/-- The opcode bytes and the next state of the jump on `cond`, with what the table of R102 asks in
the spelling `P`. -/
theorem jumpOn_decodesTo_and_exec (cond : Cond) (lo hi : Byte) (s : State) {P : Prop}
    [Decidable P] (hP : cond.Asks s.flags ↔ P) :
    DecodesTo [0b11#2 ++ cond.code ++ 0b010#3, lo, hi] (jumpOn cond (hi ++ lo)) ∧
      exec (jumpOn cond (hi ++ lo)) s =
        .next { s with pc := if P then hi ++ lo else s.pc + 3 } := by
  have hcond : condHolds cond s.flags = true ↔ P := (condHolds_iff_asks cond s.flags).trans hP
  exact ⟨decodesTo_jumpOn cond lo hi,
    by rw [exec_jumpOn, State.jumpIf_eq_of_iff hcond]⟩

/-- Settles O45: the one law of the jump on a condition, at the eight rows of R102. -/
theorem conditionalJumps : Obligations.ConditionalJumps := by
  unfold Obligations.ConditionalJumps
  intro lo hi s
  exact ⟨jumpOn_decodesTo_and_exec .nz lo hi s Iff.rfl,
    jumpOn_decodesTo_and_exec .z lo hi s Iff.rfl,
    jumpOn_decodesTo_and_exec .nc lo hi s Iff.rfl,
    jumpOn_decodesTo_and_exec .c lo hi s Iff.rfl,
    jumpOn_decodesTo_and_exec .po lo hi s Iff.rfl,
    jumpOn_decodesTo_and_exec .pe lo hi s Iff.rfl,
    jumpOn_decodesTo_and_exec .p lo hi s Iff.rfl,
    jumpOn_decodesTo_and_exec .m lo hi s Iff.rfl⟩

end Sys2Proof.Machine

/-! # Encoding (30_encoding.md sections 1 to 4): the decoder and the encoder are inverse -/

namespace Sys2Proof

/-- The instructions a form stands for, each with the operand bytes that name it (R41, R48). -/
inductive Form.Builds : Form → Instr → List Byte → Prop
  | plain (i : Instr) : Builds (.plain i) i []
  | imm8 (build : Byte → Instr) (d8 : Byte) : Builds (.imm8 build) (build d8) [d8]
  | imm16 (build : Word → Instr) (v : Word) :
      Builds (.imm16 build) (build v) [v.extractLsb' 0 8, v.extractLsb' 8 8]

/-- Every instruction of the form `form` is well-formed and is encoded by `op` and its operands. -/
def Form.EncodedBy (form : Form) (op : Byte) : Prop :=
  ∀ i operands, form.Builds i operands → i.wellFormed = true ∧ encode i = op :: operands

end Sys2Proof

namespace Sys2Proof.Machine

/-! ### The decoder by forms -/

/-- What decodes is an opcode byte of some form, the operand bytes of an instruction of that form,
and the rest. -/
theorem decode_eq_ok_iff {bytes rest : List Byte} {i : Instr} :
    decode bytes = .ok (i, rest) ↔
      ∃ op operands form, decodeOpcode op = some form ∧ form.Builds i operands ∧
        bytes = op :: operands ++ rest := by
  constructor
  · intro h
    unfold decode at h
    split at h
    · cases h
    next op tail =>
      split at h
      · cases h
      next i hop =>
        cases h
        exact ⟨op, [], _, hop, .plain i, rfl⟩
      next build d8 tail hop =>
        cases h
        exact ⟨op, _, _, hop, .imm8 build d8, rfl⟩
      next build lo hi tail hop =>
        cases h
        refine ⟨op, _, _, hop, .imm16 build (hi ++ lo), ?_⟩
        have hlo : (hi ++ lo).extractLsb' 0 8 = lo := loByte_mkWord hi lo
        have hhi : (hi ++ lo).extractLsb' 8 8 = hi := hiByte_mkWord hi lo
        rw [hlo, hhi]
        rfl
      · cases h
      · cases h
  · rintro ⟨op, operands, form, hop, hbuilds, rfl⟩
    cases hbuilds with
    | plain i => exact decodesTo_of_plain hop rest
    | imm8 build d8 => exact decodesTo_of_imm8 hop d8 rest
    | imm16 build v =>
      have hv : v.extractLsb' 8 8 ++ v.extractLsb' 0 8 = v := mkWord_bytes v
      have hdec := decodesTo_of_imm16 hop (v.extractLsb' 0 8) (v.extractLsb' 8 8) rest
      rwa [hv] at hdec

/-! ### Encoding, then decoding -/

theorem code3_cases (n : BitVec 3) :
    n = 0 ∨ n = 1 ∨ n = 2 ∨ n = 3 ∨ n = 4 ∨ n = 5 ∨ n = 6 ∨ n = 7 := by
  revert n
  decide

theorem code2_cases (n : BitVec 2) : n = 0 ∨ n = 1 ∨ n = 2 ∨ n = 3 := by
  revert n
  decide

theorem wellFormed_mov_iff {dst src : Reg8} :
    (Instr.mov dst src).wellFormed = true ↔ ¬(dst = .m ∧ src = .m) := by
  simp [Instr.wellFormed, imp_iff_not_or]

/-- `01 DDD SSS` is MOV, but for `01 110 110`, which is HLT (R44, R51). -/
theorem decodeOpcode_mov {dst src : Reg8} (h : ¬(dst = .m ∧ src = .m)) :
    decodeOpcode (0b01#2 ++ dst.code ++ src.code) = some (.plain (.mov dst src)) := by
  cases dst <;> cases src <;> first | rfl | exact absurd ⟨rfl, rfl⟩ h

/-- The opcode byte of a well-formed instruction has the form of that instruction (R42 to R49). -/
theorem encode_builds {i : Instr} (h : i.wellFormed = true) :
    ∃ op operands form, encode i = op :: operands ∧ decodeOpcode op = some form ∧
      form.Builds i operands := by
  cases i with
  | mov => exact ⟨_, _, _, rfl, decodeOpcode_mov (wellFormed_mov_iff.mp h), .plain _⟩
  | mvi r => cases r <;> exact ⟨_, _, _, rfl, rfl, .imm8 _ _⟩
  | inr r | dcr r | add r | adc r | sub r | sbb r | ana r | xra r | ora r | cmp r =>
    cases r <;> exact ⟨_, _, _, rfl, rfl, .plain _⟩
  | lxi rp => cases rp <;> exact ⟨_, _, _, rfl, rfl, .imm16 _ _⟩
  | inx rp | dcx rp | dad rp | push rp | pop rp | ldax rp | stax rp =>
    cases rp <;> exact ⟨_, _, _, rfl, rfl, .plain _⟩
  | rst n =>
    obtain rfl | rfl | rfl | rfl | rfl | rfl | rfl | rfl := code3_cases n <;>
      exact ⟨_, _, _, rfl, rfl, .plain _⟩
  | adi | aci | sui | sbi | ani | xri | ori | cpi | outPort | inPort =>
    exact ⟨_, _, _, rfl, rfl, .imm8 _ _⟩
  | lda | sta | lhld | shld | jmp | jnz | jz | jnc | jc | jpo | jpe | jp | jm
  | call | cnz | cz | cnc | cc | cpo | cpe | cp | cm =>
    exact ⟨_, _, _, rfl, rfl, .imm16 _ _⟩
  | _ => exact ⟨_, _, _, rfl, rfl, .plain _⟩

/-- Settles O1: the opcode byte has the instruction's form, and the form takes its operands. -/
theorem decodeInvertsEncode : Obligations.DecodeInvertsEncode := by
  unfold Obligations.DecodeInvertsEncode
  intro i rest hwf
  obtain ⟨op, operands, form, hencode, hop, hbuilds⟩ := encode_builds hwf
  rw [hencode]
  exact decode_eq_ok_iff.mpr ⟨op, operands, form, hop, hbuilds, rfl⟩

theorem decodesTo_of_encode {i : Instr} {bytes : List Byte} (hwf : i.wellFormed = true)
    (h : encode i = bytes) : DecodesTo bytes i := fun rest => by
  rw [← h]
  exact decodeInvertsEncode i rest hwf

/-! ### Decoding, then encoding -/

/-- An opcode byte is its bits 7:6, 5:3 and 2:0 (R44 to R47). -/
theorem opcode_eq_fields (op : Byte) : ∃ (top : BitVec 2) (d s : BitVec 3), op = top ++ d ++ s := by
  refine ⟨topBits op, fieldD op, fieldS op, ?_⟩
  revert op
  decide

/-- The opcode map inverts the encoder, field value by field value (R49, R51). -/
theorem decodeOpcode_encodedBy {op : Byte} {form : Form} (h : decodeOpcode op = some form) :
    form.EncodedBy op := by
  intro i operands hbuilds
  obtain ⟨top, d, s, rfl⟩ := opcode_eq_fields op
  obtain rfl | rfl | rfl | rfl := code2_cases top
  all_goals
    obtain rfl | rfl | rfl | rfl | rfl | rfl | rfl | rfl := code3_cases d
  all_goals
    obtain rfl | rfl | rfl | rfl | rfl | rfl | rfl | rfl := code3_cases s
  all_goals
    cases h
  all_goals
    cases hbuilds
    exact ⟨rfl, rfl⟩

/-- Settles O2: bytes that decode are an opcode byte and operands that its form takes, which the
encoder gives back. -/
theorem encodeInvertsDecode : Obligations.EncodeInvertsDecode := by
  unfold Obligations.EncodeInvertsDecode
  intro bytes rest i hdec
  obtain ⟨op, operands, form, hop, hbuilds, rfl⟩ := decode_eq_ok_iff.mp hdec
  obtain ⟨hwf, hencode⟩ := decodeOpcode_encodedBy hop i operands hbuilds
  exact ⟨hwf, by rw [hencode]⟩

end Sys2Proof.Machine

namespace Sys2Proof.Machine
/-! ### The first byte and the length (R42, R52) -/

/-- The opcode map gives every byte but the 12 of R52 a form, of the length that R42 lists. -/
theorem decodeOpcode_map_length (op : Byte) :
    (decodeOpcode op).map Form.length =
      if op ∈ undefinedOpcodes then none else some (opcodeLength op) := by
  revert op
  decide

theorem decodeOpcode_eq_none_iff {op : Byte} :
    decodeOpcode op = none ↔ op ∈ undefinedOpcodes := by
  rw [← Option.map_eq_none_iff (f := Form.length), decodeOpcode_map_length]
  simp

theorem decodeOpcode_length {op : Byte} {form : Form} (h : decodeOpcode op = some form) :
    form.length = opcodeLength op := by
  have hdef : op ∉ undefinedOpcodes := by simp [← decodeOpcode_eq_none_iff, h]
  simpa [h, hdef] using decodeOpcode_map_length op

theorem decode_of_undefined {op : Byte} (h : op ∈ undefinedOpcodes) (rest : List Byte) :
    decode (op :: rest) = .error (.undefinedOpcode op) := by
  simp only [decode, decodeOpcode_eq_none_iff.mpr h]

/-- Settles O3: the form of the first byte, with the operand bytes it awaits there or missing. -/
theorem opcodeByteDecidesLength : Obligations.OpcodeByteDecidesLength := by
  unfold Obligations.OpcodeByteDecidesLength
  intro op rest
  split_ifs with hundef hshort
  · exact decode_of_undefined hundef rest
  all_goals
    obtain ⟨form, hop⟩ := Option.ne_none_iff_exists'.mp (mt decodeOpcode_eq_none_iff.mp hundef)
    rw [← decodeOpcode_length hop] at hshort
  case pos =>
    cases form with
    | plain i => simp [Form.length] at hshort
    | imm8 build =>
      obtain rfl : rest = [] := by simpa [Form.length] using hshort
      simp only [decode, hop]
    | imm16 build =>
      obtain rfl | ⟨b, rfl⟩ : rest = [] ∨ ∃ b, rest = [b] := by
        rw [← List.length_eq_zero_iff, ← List.length_eq_one_iff]
        simp only [Form.length] at hshort
        omega
      all_goals simp only [decode, hop]
  case neg =>
    rw [← decodeOpcode_length hop]
    match form, rest, hop, hshort with
    | .plain i, rest, hop, _ => exact ⟨i, decodesTo_of_plain hop rest⟩
    | .imm8 build, d8 :: tail, hop, _ => exact ⟨build d8, decodesTo_of_imm8 hop d8 tail⟩
    | .imm16 build, lo :: hi :: tail, hop, _ =>
      exact ⟨build (hi ++ lo), decodesTo_of_imm16 hop lo hi tail⟩
    | .imm8 _, [], _, hshort | .imm16 _, [], _, hshort | .imm16 _, [_], _, hshort =>
      simp [Form.length] at hshort

/-- Settles O4: fourteen runs of the decoder. -/
theorem specWordsDecode : Obligations.SpecWordsDecode :=
  ⟨rfl, rfl, rfl, rfl, rfl, rfl, rfl, rfl, rfl, rfl, rfl, rfl, rfl, rfl⟩
end Sys2Proof.Machine

/-! # Every instruction: what it answers, stores and leaves (10_state.md section 8, 20_memory.md
section 3) -/

namespace Sys2Proof.Machine

theorem exec_completes (i : Instr) (s : State) : ∃ t, exec i s = .next t := by
  cases i <;> exact ⟨_, rfl⟩

theorem eq_of_exec {i : Instr} {s t u : State} (hu : exec i s = .next u)
    (h : exec i s = .next t) : t = u := by
  rw [hu] at h
  exact (Host.Outcome.next.inj h).symm

/-! ### The branch family writes SP, memory and PC alone -/

/-- `t` is `s` but for SP, memory and PC. -/
def SameButStackAndPc (s t : State) : Prop := t = { s with sp := t.sp, mem := t.mem, pc := t.pc }

theorem State.jumpIf_sameBut (s : State) (cond : Cond) (target : Word) :
    SameButStackAndPc s (s.jumpIf cond target) := by
  obtain ⟨-, h⟩ | ⟨-, h⟩ := s.jumpIf_cases cond target <;> rw [h] <;> rfl

theorem State.callIf_sameBut (s : State) (cond : Cond) (target : Word) :
    SameButStackAndPc s (s.callIf cond target) := by
  obtain ⟨-, h⟩ | ⟨-, h⟩ := s.callIf_cases cond target <;> rw [h] <;> rfl

theorem State.returnIf_sameBut (s : State) (cond : Cond) :
    SameButStackAndPc s (s.returnIf cond) := by
  obtain ⟨-, h⟩ | ⟨-, h⟩ := s.returnIf_cases cond <;> rw [h] <;> rfl

theorem exec_branch {i : Instr} {s t : State} (hbranch : isBranch i = true)
    (h : exec i s = .next t) : SameButStackAndPc s t := by
  cases i
  case jmp | pchl | call | rst | ret => obtain rfl := eq_of_exec rfl h; rfl
  case jnz | jz | jnc | jc | jpo | jpe | jp | jm =>
    obtain rfl := eq_of_exec rfl h
    exact s.jumpIf_sameBut _ _
  case cnz | cz | cnc | cc | cpo | cpe | cp | cm =>
    obtain rfl := eq_of_exec rfl h
    exact s.callIf_sameBut _ _
  case rnz | rz | rnc | rc | rpo | rpe | rp | rm =>
    obtain rfl := eq_of_exec rfl h
    exact s.returnIf_sameBut _
  all_goals cases hbranch

/-- Every other instruction ends with `pc <- npc`. -/
theorem exec_sequential {i : Instr} {s t : State} (hseq : isBranch i = false)
    (h : exec i s = .next t) : t.pc = s.npc (encode i).length := by
  cases i
  case jmp | jnz | jz | jnc | jc | jpo | jpe | jp | jm
    | call | cnz | cz | cnc | cc | cpo | cpe | cp | cm
    | ret | rnz | rz | rnc | rc | rpo | rpe | rp | rm | rst | pchl => cases hseq
  all_goals obtain rfl := eq_of_exec rfl h
  case mov r _ | mvi r _ | inr r | dcr r =>
    obtain ⟨-, hpc, -⟩ := s.writeReg8_frame r _
    exact congrArg (· + BitVec.ofNat 16 _) hpc
  case lxi rp _ | inx rp | dcx rp | pop rp => cases rp <;> rfl
  case shld | xthl => simp [State.writeWord, encode, withWord, State.npc]
  all_goals rfl

/-! ### INTE, the stop and the open arguments -/

/-- INTE after an instruction (R141, R142). -/
def inteAfter (i : Instr) (inte : Bool) : Bool :=
  match i with
  | .ei => true
  | .di => false
  | _ => inte

/-- The stop after an instruction (R140). -/
def haltedAfter (i : Instr) (halted : Bool) : Bool :=
  match i with
  | .hlt => true
  | _ => halted

theorem SameButStackAndPc.control {s t : State} (h : SameButStackAndPc s t) :
    t.inte = s.inte ∧ t.halted = s.halted ∧ t.params = s.params := by
  rw [h]
  exact ⟨rfl, rfl, rfl⟩

/-- Only EI and DI write INTE, only HLT stops, and nothing writes the open arguments. -/
theorem exec_control {i : Instr} {s t : State} (h : exec i s = .next t) :
    t.inte = inteAfter i s.inte ∧ t.halted = haltedAfter i s.halted ∧ t.params = s.params := by
  cases i
  case jmp | jnz | jz | jnc | jc | jpo | jpe | jp | jm
    | call | cnz | cz | cnc | cc | cpo | cpe | cp | cm
    | ret | rnz | rz | rnc | rc | rpo | rpe | rp | rm | rst | pchl =>
    exact (exec_branch rfl h).control
  all_goals obtain rfl := eq_of_exec rfl h
  case mov r _ | mvi r _ | inr r | dcr r =>
    obtain ⟨-, -, -, hinte, hhalted, hparams⟩ := s.writeReg8_frame r _
    exact ⟨hinte, hhalted, hparams⟩
  case lxi rp _ | inx rp | dcx rp =>
    obtain ⟨-, -, -, hinte, hhalted, -, hparams⟩ := s.writeRp_frame rp _
    exact ⟨hinte, hhalted, hparams⟩
  case pop rp =>
    obtain ⟨-, -, -, hinte, hhalted, hparams, -⟩ := s.dropTop.writeStackRp_frame rp s.topOfStack
    exact ⟨hinte, hhalted, hparams⟩
  case shld | xthl | lhld | dad | xchg => simp [State.writeWord, inteAfter, haltedAfter]
  all_goals exact ⟨rfl, rfl, rfl⟩

/-! ### Flags (00_scope.md R6) -/

theorem SameButStackAndPc.flags {s t : State} (h : SameButStackAndPc s t) :
    t.flags = s.flags := by
  rw [h]

theorem exec_flagColumn {i : Instr} {s t : State} (h : exec i s = .next t) :
    (flagColumn i).Allows s.flags t.flags := by
  cases i
  case jmp | jnz | jz | jnc | jc | jpo | jpe | jp | jm
    | call | cnz | cz | cnc | cc | cpo | cpe | cp | cm
    | ret | rnz | rz | rnc | rc | rpo | rpe | rp | rm | rst | pchl =>
    exact (exec_branch rfl h).flags
  all_goals obtain rfl := eq_of_exec rfl h
  case add | adc | adi | aci | sub | sbb | sui | sbi | daa | cmp | cpi => exact trivial
  case ana | ani | xra | xri | ora | ori => exact ⟨rfl, rfl⟩
  case mov r _ | mvi r _ =>
    obtain ⟨-, -, hflags, -⟩ := s.writeReg8_frame r _
    exact hflags
  case lxi rp _ | inx rp | dcx rp =>
    obtain ⟨-, -, hflags, -⟩ := s.writeRp_frame rp _
    exact hflags
  case pop rp =>
    cases rp with
    | psw => exact trivial
    | _ => simp [flagColumn, FlagColumn.Allows, State.writeStackRp, State.dropTop]
  case shld | xthl => simp [flagColumn, FlagColumn.Allows, State.writeWord]
  all_goals rfl

/-! ### Registers and SP (R27) -/

section
variable (s : State) (q : Reg8)

@[simp] theorem State.readReg8_setFlags (f : Flags) :
    (s.setFlags f).readReg8 q = s.readReg8 q := by
  cases q <;> rfl

@[simp] theorem State.readReg8_setSp (v : Word) : (s.setSp v).readReg8 q = s.readReg8 q := by
  cases q <;> rfl

theorem State.readReg8_setA (v : Byte) (hq : q ≠ .a) :
    (s.setA v).readReg8 q = s.readReg8 q := by
  cases q with
  | a => exact absurd rfl hq
  | _ => rfl

theorem State.readReg8_writeByte (x : Word) (v : Byte) (hm : q ≠ .m) :
    (s.writeByte x v).readReg8 q = s.readReg8 q := by
  cases q with
  | m => exact absurd rfl hm
  | _ => rfl

theorem State.readReg8_setHL (v : Word) (hm : q ≠ .m) (hh : q ≠ .h) (hl : q ≠ .l) :
    (s.setHL v).readReg8 q = s.readReg8 q := by
  cases q with
  | m => exact absurd rfl hm
  | h => exact absurd rfl hh
  | l => exact absurd rfl hl
  | _ => rfl

theorem State.readReg8_setDE (v : Word) (hd : q ≠ .d) (he : q ≠ .e) :
    (s.setDE v).readReg8 q = s.readReg8 q := by
  cases q with
  | d => exact absurd rfl hd
  | e => exact absurd rfl he
  | _ => rfl

theorem State.readReg8_setBC (v : Word) (hb : q ≠ .b) (hc : q ≠ .c) :
    (s.setBC v).readReg8 q = s.readReg8 q := by
  cases q with
  | b => exact absurd rfl hb
  | c => exact absurd rfl hc
  | _ => rfl

end

/-- The registers outside `written` are in `t` as in `s`. -/
def KeepsRegistersBut (written : List Reg8) (s t : State) : Prop :=
  ∀ q, q ≠ .m → q ∉ written → t.readReg8 q = s.readReg8 q

theorem SameButStackAndPc.keepsRegisters {s t : State} (h : SameButStackAndPc s t) :
    KeepsRegistersBut [] s t := by
  intro q hq _
  rw [h]
  cases q with
  | m => exact absurd rfl hq
  | _ => rfl

theorem State.writeRp_keepsRegisters (s : State) (rp : Rp) (v : Word) :
    KeepsRegistersBut (rpHalves rp) s (s.writeRp rp v) := by
  intro q hm hq
  cases rp with
  | bc =>
    obtain ⟨hb, hc⟩ : q ≠ .b ∧ q ≠ .c := by simpa [rpHalves] using hq
    exact s.readReg8_setBC q v hb hc
  | de =>
    obtain ⟨hd, he⟩ : q ≠ .d ∧ q ≠ .e := by simpa [rpHalves] using hq
    exact s.readReg8_setDE q v hd he
  | hl =>
    obtain ⟨hh, hl⟩ : q ≠ .h ∧ q ≠ .l := by simpa [rpHalves] using hq
    exact s.readReg8_setHL q v hm hh hl
  | sp => exact s.readReg8_setSp q v

theorem State.writeStackRp_keepsRegisters (s : State) (rp : StackRp) (v : Word) :
    KeepsRegistersBut (stackRpHalves rp) s (s.writeStackRp rp v) := by
  intro q hm hq
  cases rp with
  | bc => exact s.writeRp_keepsRegisters .bc v q hm hq
  | de => exact s.writeRp_keepsRegisters .de v q hm hq
  | hl => exact s.writeRp_keepsRegisters .hl v q hm hq
  | psw =>
    have ha : q ≠ .a := by simpa [stackRpHalves] using hq
    rw [State.writeStackRp, State.setPsw, State.readReg8_setFlags, s.readReg8_setA q _ ha]

theorem exec_keepsRegisters {i : Instr} {s t : State} (h : exec i s = .next t) :
    KeepsRegistersBut (writtenRegisters i) s t := by
  cases i
  case jmp | jnz | jz | jnc | jc | jpo | jpe | jp | jm
    | call | cnz | cz | cnc | cc | cpo | cpe | cp | cm
    | ret | rnz | rz | rnc | rc | rpo | rpe | rp | rm | rst | pchl =>
    exact (exec_branch rfl h).keepsRegisters
  all_goals
    obtain rfl := eq_of_exec rfl h
    intro q hm hq
  case mov r _ | mvi r _ | inr r | dcr r =>
    have hr : q ≠ r := by simpa [writtenRegisters] using hq
    simp [State.setCount, s.readReg8_writeReg8 _ _ _ hm, hr]
  case lxi rp _ | inx rp | dcx rp =>
    rw [State.readReg8_advance, s.writeRp_keepsRegisters rp _ q hm hq]
  case pop rp =>
    rw [State.readReg8_advance, s.dropTop.writeStackRp_keepsRegisters rp _ q hm hq, State.dropTop,
      State.readReg8_setSp]
  case lda | ldax | add | adc | adi | aci | sub | sbb | sui | sbi | daa | ana | xra | ora
    | ani | xri | ori | rlc | rrc | ral | rar | cma | inPort =>
    have ha : q ≠ .a := by simpa [writtenRegisters] using hq
    simp [State.setArith, State.setLogic, State.setRotate, State.readReg8_setA, ha]
  case lhld | dad | xthl | xchg =>
    simp only [writtenRegisters, List.mem_cons, List.not_mem_nil, or_false, not_or] at hq
    simp [State.writeWord, State.readReg8_setHL, State.readReg8_setDE, State.readReg8_writeByte,
      hm, hq]
  case sta | shld | stax | push =>
    simp [State.writeWord, State.push16, State.readReg8_writeByte, hm]
  case ei | di | hlt => cases q <;> rfl
  all_goals simp [State.setCompare, State.portWrite]

/-- SP is written by the stack, by calls and returns and by the forms that name it. -/
theorem exec_sp {i : Instr} {s t : State} (hsp : mayWriteSp i = false)
    (h : exec i s = .next t) : t.sp = s.sp := by
  cases i
  case sphl | push | pop | call | cnz | cz | cnc | cc | cpo | cpe | cp | cm
    | ret | rnz | rz | rnc | rc | rpo | rpe | rp | rm | rst => cases hsp
  all_goals obtain rfl := eq_of_exec rfl h
  case mov r _ | mvi r _ | inr r | dcr r =>
    obtain ⟨hsp, -⟩ := s.writeReg8_frame r _
    exact hsp
  case lxi rp _ | inx rp | dcx rp =>
    cases rp with
    | sp => cases hsp
    | _ => rfl
  case jnz | jz | jnc | jc | jpo | jpe | jp | jm =>
    obtain ⟨-, h⟩ | ⟨-, h⟩ := s.jumpIf_cases _ _ <;> rw [h] <;> rfl
  case xthl => simp [State.writeWord]
  all_goals rfl

/-! ### What an instruction stores (R34) -/

/-- Memory after storing a byte at each of the addresses, in their order. -/
inductive StoresAt : Memory → List Word → Memory → Prop
  | nil (m : Memory) : StoresAt m [] m
  | store {m m' : Memory} {xs : List Word} (x : Word) (v : Byte) :
      StoresAt (Memory.put m x.toNat v) xs m' → StoresAt m (x :: xs) m'

/-- A store keeps the canonical form of memory. -/
theorem StoresAt.wf {m m' : Memory} {xs : List Word} (h : StoresAt m xs m')
    (hwf : Memory.wf m = true) : Memory.wf m' = true := by
  induction h with
  | nil => exact hwf
  | store x v _ ih => exact ih (Memory.put_wf _ _ v hwf x.isLt)

/-- A store leaves every byte outside its addresses. -/
theorem StoresAt.get_of_not_mem {m m' : Memory} {xs : List Word} (h : StoresAt m xs m')
    {x : Word} (hx : x ∉ xs) : Memory.get m' x.toNat = Memory.get m x.toNat := by
  induction h with
  | nil => rfl
  | store y v _ ih =>
    obtain ⟨hy, hxs⟩ := List.ne_and_not_mem_of_not_mem_cons hx
    rw [ih hxs, Memory.get_put, if_neg (mt BitVec.eq_of_toNat_eq hy)]

theorem StoresAt.eq_of_nil {m m' : Memory} (h : StoresAt m [] m') : m' = m := by
  cases h
  rfl

/-- The byte above the new SP of a push lies just below the old SP. -/
theorem sub_two_add_one (x : Word) : x - 2 + 1 = x - 1 := by
  bv_omega

section
variable (s : State)

theorem State.writeByte_storesAt (x : Word) (v : Byte) :
    StoresAt s.mem [x] (s.writeByte x v).mem := .store x v (.nil _)

theorem State.writeWord_storesAt (x v : Word) :
    StoresAt s.mem [x, x + 1] (s.writeWord x v).mem := .store x _ (.store (x + 1) _ (.nil _))

theorem State.push16_storesAt (v : Word) :
    StoresAt s.mem [s.sp - 1, s.sp - 2] (s.push16 v).mem := by
  rw [← sub_two_add_one]
  exact .store _ _ (.store _ _ (.nil _))

theorem State.writeReg8_storesAt (r : Reg8) (v : Byte) :
    StoresAt s.mem (if r = .m then [s.hl] else []) (s.writeReg8 r v).mem := by
  cases r with
  | m => exact s.writeByte_storesAt s.hl v
  | _ => exact .nil _

theorem State.jumpIf_storesAt (cond : Cond) (target : Word) :
    StoresAt s.mem [] (s.jumpIf cond target).mem := by
  obtain ⟨-, h⟩ | ⟨-, h⟩ := s.jumpIf_cases cond target <;> rw [h] <;> exact .nil _

theorem State.returnIf_storesAt (cond : Cond) : StoresAt s.mem [] (s.returnIf cond).mem := by
  obtain ⟨-, h⟩ | ⟨-, h⟩ := s.returnIf_cases cond <;> rw [h] <;> exact .nil _

theorem State.callIf_storesAt (cond : Cond) (target : Word) :
    StoresAt s.mem (if condHolds cond s.flags then [s.sp - 1, s.sp - 2] else [])
      (s.callIf cond target).mem := by
  obtain ⟨hcond, h⟩ | ⟨hcond, h⟩ := s.callIf_cases cond target
  · rw [h, hcond]
    exact s.push16_storesAt _
  · rw [h, hcond]
    exact .nil _

end

theorem exec_storesAt {i : Instr} {s t : State} (h : exec i s = .next t) :
    StoresAt s.mem (storedAddresses i s) t.mem := by
  cases i <;> obtain rfl := eq_of_exec rfl h
  case mov r _ | mvi r _ | inr r | dcr r => exact s.writeReg8_storesAt r _
  case lxi rp _ | inx rp | dcx rp =>
    obtain ⟨-, -, -, -, -, hmem, -⟩ := s.writeRp_frame rp _
    rw [State.advance_mem, hmem]
    exact .nil _
  case sta | stax => exact s.writeByte_storesAt _ _
  case shld => exact s.writeWord_storesAt _ _
  case xthl =>
    rw [State.advance_mem, State.setHL_mem]
    exact s.writeWord_storesAt _ _
  case push | call | rst => exact s.push16_storesAt _
  case pop rp =>
    obtain ⟨-, -, hmem, -⟩ := s.dropTop.writeStackRp_frame rp s.topOfStack
    rw [State.advance_mem, hmem]
    exact .nil _
  case jnz | jz | jnc | jc | jpo | jpe | jp | jm => exact s.jumpIf_storesAt _ _
  case cnz | cz | cnc | cc | cpo | cpe | cp | cm => exact s.callIf_storesAt _ _
  case rnz | rz | rnc | rc | rpo | rpe | rp | rm => exact s.returnIf_storesAt _
  all_goals exact .nil _

/-! ### The rules over all instructions -/

/-- Settles O10: a stopped step changes nothing, every other step stores what `exec` stores. -/
theorem stepKeepsMemoryCanonical : Obligations.StepKeepsMemoryCanonical := by
  unfold Obligations.StepKeepsMemoryCanonical
  intro s t hwf hstep
  obtain ⟨-, rfl⟩ | ⟨-, i, rest, -, hexec⟩ := step_next_cases hstep
  · exact hwf
  · exact (exec_storesAt hexec).wf hwf

/-- Settles O17: the columns by `exec_flagColumn`, POP PSW by the byte its word has at SP. -/
theorem flagsChangeByTheirColumnOnly : Obligations.FlagsChangeByTheirColumnOnly := by
  unfold Obligations.FlagsChangeByTheirColumnOnly
  refine ⟨fun i s t h => exec_flagColumn h, fun s => ⟨_, rfl, ?_⟩⟩
  have hlow : loByte s.topOfStack = s.readByte s.sp := loByte_mkWord _ _
  simp [State.writeStackRp, State.setPsw, State.dropTop, hlow]

/-- Settles O18, by the addresses of the store. -/
theorem onlyStoredBytesChange : Obligations.OnlyStoredBytesChange := by
  unfold Obligations.OnlyStoredBytesChange
  intro i s t h
  have hstores := exec_storesAt h
  refine ⟨fun x hx => hstores.get_of_not_mem hx, fun hnil => ?_⟩
  rw [hnil] at hstores
  exact hstores.eq_of_nil

/-- Settles O19: registers, SP and the open arguments each by their rule over `exec`. -/
theorem registersChangeOnlyAsListed : Obligations.RegistersChangeOnlyAsListed := by
  unfold Obligations.RegistersChangeOnlyAsListed
  intro i s t h
  obtain ⟨-, -, hparams⟩ := exec_control h
  exact ⟨exec_keepsRegisters h, fun hsp => exec_sp hsp h, hparams⟩

/-- Settles O20: every instruction outside the branch family ends with `pc <- npc`. -/
theorem sequentialInstructionsAdvance : Obligations.SequentialInstructionsAdvance := by
  unfold Obligations.SequentialInstructionsAdvance
  intro i s t hseq _ h
  exact exec_sequential hseq h

end Sys2Proof.Machine

/-! # The step (00_scope.md R4), and memory as data (10_state.md section 7) -/

namespace Sys2Proof.Machine

/-! ### Memories in canonical form -/

theorem Memory.wfFrom_cons {lo k : Nat} {v : Byte} {m : Memory} :
    Memory.wfFrom lo ((k, v) :: m) = true ↔
      lo ≤ k ∧ k < 65536 ∧ v ≠ Config.unlistedByte ∧ Memory.wfFrom (k + 1) m = true := by
  simp only [Memory.wfFrom, Bool.and_eq_true, decide_eq_true_eq, bne_iff_ne, and_assoc]

/-- Below its first address a canonical listing reads as unlisted. -/
theorem Memory.get_of_lt {lo n : Nat} {m : Memory} (h : Memory.wfFrom lo m = true) (hn : n < lo) :
    Memory.get m n = Config.unlistedByte := by
  induction m generalizing lo with
  | nil => rfl
  | cons c m ih =>
    obtain ⟨k, v⟩ := c
    obtain ⟨hlo, -, -, hm⟩ := Memory.wfFrom_cons.mp h
    have hk : k ≠ n := by omega
    rw [Memory.get, if_neg hk, ih hm (by omega)]

theorem Memory.get_cons_self (k : Nat) (v : Byte) (m : Memory) : Memory.get ((k, v) :: m) k = v :=
  if_pos rfl

theorem Memory.get_cons_of_ne {k n : Nat} (h : k ≠ n) (v : Byte) (m : Memory) :
    Memory.get ((k, v) :: m) n = Memory.get m n :=
  if_neg h

/-- An address that reads as listed is not below the first address of a canonical listing. -/
theorem Memory.first_le_of_get_ne {k n : Nat} {v : Byte} {m : Memory}
    (hm : Memory.wfFrom (k + 1) m = true)
    (hget : Memory.get ((k, v) :: m) n ≠ Config.unlistedByte) : k ≤ n := by
  by_contra hlt
  rw [Memory.get_cons_of_ne (by omega), Memory.get_of_lt hm (by omega)] at hget
  exact hget rfl

/-- Canonical listings that read alike are equal: their first addresses are, by the reads there. -/
theorem Memory.eq_of_get_eq {lo : Nat} {m n : Memory} (hm : Memory.wfFrom lo m = true)
    (hn : Memory.wfFrom lo n = true)
    (hget : ∀ a, a < 65536 → Memory.get m a = Memory.get n a) : m = n := by
  induction m generalizing lo n with
  | nil =>
    cases n with
    | nil => rfl
    | cons c n =>
      obtain ⟨k, v⟩ := c
      obtain ⟨-, hk, hv, -⟩ := Memory.wfFrom_cons.mp hn
      exact absurd ((Memory.get_cons_self k v n).symm.trans (hget k hk).symm) hv
  | cons c m ih =>
    obtain ⟨k, v⟩ := c
    obtain ⟨-, hk, hv, hmtail⟩ := Memory.wfFrom_cons.mp hm
    have hreadk := hget k hk
    rw [Memory.get_cons_self] at hreadk
    cases n with
    | nil => exact absurd hreadk hv
    | cons c' n =>
      obtain ⟨k', v'⟩ := c'
      obtain ⟨-, hk', hv', hntail⟩ := Memory.wfFrom_cons.mp hn
      have hreadk' := hget k' hk'
      rw [Memory.get_cons_self] at hreadk'
      obtain rfl : k = k' := Nat.le_antisymm (Memory.first_le_of_get_ne hmtail (hreadk' ▸ hv'))
        (Memory.first_le_of_get_ne hntail (hreadk ▸ hv))
      obtain rfl : v = v' := hreadk.trans (Memory.get_cons_self k v' n)
      have htail : ∀ a, a < 65536 → Memory.get m a = Memory.get n a := by
        intro a ha
        by_cases hka : k = a
        · have hlt : a < k + 1 := by omega
          rw [Memory.get_of_lt hmtail hlt, Memory.get_of_lt hntail hlt]
        · rw [← Memory.get_cons_of_ne hka v m, hget a ha, Memory.get_cons_of_ne hka]
      rw [ih hmtail hntail htail]

/-- Settles O12: every address below 65,536 is a 16-bit word, so the reads agree there. -/
theorem equalReadsAreEqualMemories : Obligations.EqualReadsAreEqualMemories := by
  unfold Obligations.EqualReadsAreEqualMemories
  intro m n hm hn hget
  refine Memory.eq_of_get_eq hm hn fun a ha => ?_
  have hword := hget (BitVec.ofNat 16 a)
  rwa [BitVec.toNat_ofNat, Nat.mod_eq_of_lt ha] at hword

/-- Settles O11: nothing is listed at reset, and a start lists what `MEM_INIT` lists. -/
theorem resetMemoryCanonical : Obligations.ResetMemoryCanonical := by
  unfold Obligations.ResetMemoryCanonical
  exact ⟨Memory.nil_wf, fun p r m hwf => (State.resetWith_mem p r m).symm ▸ hwf⟩

/-- Settles O13, by the read after a byte write. -/
theorem byteWriteThenRead : Obligations.ByteWriteThenRead := by
  unfold Obligations.ByteWriteThenRead
  exact fun s x y v => ⟨s.readByte_writeByte x y v, rfl⟩

/-- Settles O59: the fields of the start, one by one. -/
theorem resetLeaves : Obligations.ResetLeaves := by
  unfold Obligations.ResetLeaves
  exact fun p r m => rfl

/-! ### The opcode byte a fetch runs (R52) -/

/-- A defined byte stands for itself. -/
theorem aliasOpcode_of_defined {op : Byte} (h : op ∉ undefinedOpcodes) : aliasOpcode op = op := by
  simp only [undefinedOpcodes, List.mem_cons, List.not_mem_nil, or_false, not_or] at h
  simp only [aliasOpcode, h, or_false, if_false]

theorem aliasOpcode_defined (op : Byte) : aliasOpcode op ∉ undefinedOpcodes := by
  revert op
  decide

/-- An undefined byte stands for one of the four instructions of R52. -/
theorem aliasOpcode_of_undefined {op : Byte} (h : op ∈ undefinedOpcodes) :
    aliasOpcode op ∈ ([0x00, 0xC3, 0xC9, 0xCD] : List Byte) := by
  revert op
  decide

theorem resolveOpcode_of_defined (mode : UndefOpcode) {op : Byte} (h : op ∉ undefinedOpcodes) :
    resolveOpcode mode op = op := by
  cases mode with
  | fault => rfl
  | alias8080 => exact aliasOpcode_of_defined h

/-- A byte that no other byte stands for is run exactly where it is read. -/
theorem resolveOpcode_eq_iff (mode : UndefOpcode) {op c : Byte} (hdef : c ∉ undefinedOpcodes)
    (halias : c ∉ ([0x00, 0xC3, 0xC9, 0xCD] : List Byte)) :
    resolveOpcode mode op = c ↔ op = c := by
  constructor
  · rintro rfl
    by_cases hop : op ∈ undefinedOpcodes
    · cases mode with
      | fault => exact absurd hop hdef
      | alias8080 => exact absurd (aliasOpcode_of_undefined hop) halias
    · exact (resolveOpcode_of_defined mode hop).symm
  · rintro rfl
    exact resolveOpcode_of_defined mode hdef

/-! ### The step by what it fetches -/

theorem step_of_halted {s : State} (h : s.halted = true) : step s = .next s := by
  rw [step, if_pos h]

theorem step_of_decode {s : State} {i : Instr} {rest : List Byte} (hrun : s.halted = false)
    (hdec : decode s.fetchBytes = .ok (i, rest)) : step s = exec i s := by
  simp only [step, hrun, Bool.false_eq_true, if_false, hdec]

theorem step_of_undefined {s : State} (hrun : s.halted = false)
    (h : resolveOpcode s.params.undefOpcode (s.readByte s.pc) ∈ undefinedOpcodes) :
    step s = .fault (.undefinedOpcode s.pc (s.readByte s.pc)) := by
  have hdec := decode_of_undefined h [s.readByte (s.pc + 1), s.readByte (s.pc + 2)]
  simp only [step, hrun, Bool.false_eq_true, if_false, State.fetchBytes, hdec]

/-- A running CPU runs the instruction fetched, unless the byte resolved is undefined. -/
theorem step_running_cases {s : State} (hrun : s.halted = false) :
    (∃ i rest, decode s.fetchBytes = .ok (i, rest) ∧ step s = exec i s) ∨
      (resolveOpcode s.params.undefOpcode (s.readByte s.pc) ∈ undefinedOpcodes ∧
        step s = .fault (.undefinedOpcode s.pc (s.readByte s.pc))) := by
  obtain ⟨i, rest, hdec⟩ | ⟨hop, -⟩ := decode_three_cases
    (resolveOpcode s.params.undefOpcode (s.readByte s.pc)) (s.readByte (s.pc + 1))
    (s.readByte (s.pc + 2))
  · exact .inl ⟨i, rest, hdec, step_of_decode hrun hdec⟩
  · have hundef := decodeOpcode_eq_none_iff.mp hop
    exact .inr ⟨hundef, step_of_undefined hrun hundef⟩

theorem run_succ_of_next {M : Host.Core} {s t : M.State} (h : M.step s = .next t) (k : Nat) :
    M.run (k + 1) s = M.run k t := by
  simp only [Host.Core.run, h]

/-- Settles O6, by induction on the number of steps. -/
theorem stoppedMachineNeverMoves : Obligations.StoppedMachineNeverMoves := by
  unfold Obligations.StoppedMachineNeverMoves
  intro k s hstop
  have hstep : Sys2Proof.core.step s = .next s := step_of_halted hstop
  induction k with
  | zero => rfl
  | succ k ih => exact (run_succ_of_next hstep k).trans ih

/-- Settles O5: the first byte decodes, so it is defined and the fetch keeps it. -/
theorem stepRunsDecodedInstruction : Obligations.StepRunsDecodedInstruction := by
  unfold Obligations.StepRunsDecodedInstruction
  intro s i rest hrun hdec
  have hdef : s.readByte s.pc ∉ undefinedOpcodes := fun hundef => by
    rw [decode_of_undefined hundef] at hdec
    cases hdec
  refine step_of_decode hrun (rest := rest) ?_
  rw [State.fetchBytes, resolveOpcode_of_defined _ hdef, hdec]

/-- Settles O9: `exec` answers for each instruction, and a step is `exec`, a fault or nothing. -/
theorem everyInstructionCompletes : Obligations.EveryInstructionCompletes := by
  unfold Obligations.EveryInstructionCompletes
  refine ⟨fun i s => ?_, fun s r => ?_⟩
  · obtain ⟨t, ht⟩ := exec_completes i s
    obtain ⟨-, -, hparams⟩ := exec_control ht
    exact ⟨t, ht, hparams⟩
  · cases hrun : s.halted with
    | true => simp [step_of_halted hrun]
    | false =>
      obtain ⟨i, -, -, hstep⟩ | ⟨-, hstep⟩ := step_running_cases hrun
      · obtain ⟨t, ht⟩ := exec_completes i s
        simp [hstep, ht]
      · simp [hstep]

/-- A resolved byte is undefined exactly where it was and `UNDEF_OPCODE` replaces nothing. -/
theorem resolveOpcode_undefined_iff (mode : UndefOpcode) (op : Byte) :
    resolveOpcode mode op ∈ undefinedOpcodes ↔ mode = .fault ∧ op ∈ undefinedOpcodes := by
  cases mode with
  | fault => simp [resolveOpcode]
  | alias8080 => simp [resolveOpcode, aliasOpcode_defined]

/-- Settles O7: of the three things a step can be, only the undefined byte is a fault. -/
theorem stepFaultsOnlyOnUndefinedOpcode : Obligations.StepFaultsOnlyOnUndefinedOpcode := by
  unfold Obligations.StepFaultsOnlyOnUndefinedOpcode
  intro s f
  cases hrun : s.halted with
  | true => simp [step_of_halted hrun]
  | false =>
    rw [← and_assoc (a := s.params.undefOpcode = .fault), ← resolveOpcode_undefined_iff]
    obtain ⟨i, rest, hdec, hstep⟩ | ⟨hundef, hstep⟩ := step_running_cases hrun
    · obtain ⟨t, ht⟩ := exec_completes i s
      have hdef : resolveOpcode s.params.undefOpcode (s.readByte s.pc) ∉ undefinedOpcodes :=
        fun hundef => by
          rw [State.fetchBytes, decode_of_undefined hundef] at hdec
          cases hdec
      simp [hstep, ht, hdef]
    · simp [hstep, hundef, eq_comm]

/-- Under `ALIAS_8080` a byte at PC that stands for `c` steps as `c` does. -/
theorem step_of_alias {s : State} {c : Byte} {i : Instr} {rest : List Byte}
    (hrun : s.halted = false) (hmode : s.params.undefOpcode = .alias8080)
    (halias : aliasOpcode (s.readByte s.pc) = c)
    (hdec : decode [c, s.readByte (s.pc + 1), s.readByte (s.pc + 2)] = .ok (i, rest)) :
    step s = exec i s := by
  refine step_of_decode hrun (rest := rest) ?_
  rw [State.fetchBytes, hmode, resolveOpcode, halias, hdec]

/-- Settles O8: what each of the 12 bytes stands for, decoded with the bytes after it. -/
theorem aliasModeRunsTheAliases : Obligations.AliasModeRunsTheAliases := by
  unfold Obligations.AliasModeRunsTheAliases
  intro s hrun hmode
  refine ⟨fun hop => ?nop, fun hop => ?jmp, fun hop => ?ret, fun hop => ?call, ?safe⟩
  case nop =>
    have halias : ∀ op ∈ ([0x08, 0x10, 0x18, 0x20, 0x28, 0x30, 0x38] : List Byte),
        aliasOpcode op = 0x00 := by decide
    exact step_of_alias hrun hmode (halias _ hop) rfl
  case jmp => exact step_of_alias hrun hmode (congrArg aliasOpcode hop) rfl
  case ret => exact step_of_alias hrun hmode (congrArg aliasOpcode hop) rfl
  case call =>
    have halias : ∀ op ∈ ([0xDD, 0xED, 0xFD] : List Byte), aliasOpcode op = 0xCD := by decide
    exact step_of_alias hrun hmode (halias _ hop) rfl
  case safe =>
    obtain ⟨i, -, -, hstep⟩ | ⟨hundef, -⟩ := step_running_cases hrun
    · obtain ⟨t, ht⟩ := exec_completes i s
      exact ⟨t, hstep.trans ht⟩
    · rw [hmode] at hundef
      exact absurd hundef (aliasOpcode_defined _)

/-! ### HLT, EI and DI by the byte at PC -/

/-- A fetch answers `j`, whose one byte `c` no other byte stands for, exactly where `c` is at PC. -/
theorem fetched_eq_iff {s : State} {i j : Instr} {c : Byte} {rest : List Byte}
    (hdec : decode s.fetchBytes = .ok (i, rest)) (hj : encode j = [c])
    (hop : decodeOpcode c = some (.plain j))
    (halias : c ∉ ([0x00, 0xC3, 0xC9, 0xCD] : List Byte)) :
    i = j ↔ s.readByte s.pc = c := by
  have hdef : c ∉ undefinedOpcodes := by simp [← decodeOpcode_eq_none_iff, hop]
  rw [← resolveOpcode_eq_iff s.params.undefOpcode hdef halias]
  constructor
  · rintro rfl
    obtain ⟨-, hbytes⟩ := encodeInvertsDecode _ _ _ hdec
    rw [hj] at hbytes
    exact (List.cons.inj hbytes).1.symm
  · intro hc
    rw [State.fetchBytes, hc] at hdec
    have hplain := decodesTo_of_plain hop [s.readByte (s.pc + 1), s.readByte (s.pc + 2)]
    cases hdec.symm.trans hplain
    rfl

theorem haltedAfter_eq (i : Instr) (b : Bool) :
    haltedAfter i b = if i = .hlt then true else b := by
  cases i <;> rfl

theorem inteAfter_eq (i : Instr) (b : Bool) :
    inteAfter i b = if i = .ei then true else if i = .di then false else b := by
  cases i <;> rfl

/-- Settles O14: HLT alone stops, and 0x76 alone is fetched as HLT. -/
theorem onlyHltStopsTheCpu : Obligations.OnlyHltStopsTheCpu := by
  unfold Obligations.OnlyHltStopsTheCpu
  intro s t hrun hstep
  obtain ⟨hstop, -⟩ | ⟨-, i, rest, hdec, hexec⟩ := step_next_cases hstep
  · rw [hrun] at hstop
    cases hstop
  · obtain ⟨-, hhalted, -⟩ := exec_control hexec
    rw [hhalted, hrun, haltedAfter_eq, ← fetched_eq_iff hdec (j := .hlt) rfl rfl (by decide)]
    simp

/-- Settles O16: EI sets INTE and DI clears it, and each is fetched from its byte alone. -/
theorem onlyEiAndDiWriteInte : Obligations.OnlyEiAndDiWriteInte := by
  unfold Obligations.OnlyEiAndDiWriteInte
  intro s t hrun hstep
  obtain ⟨hstop, -⟩ | ⟨-, i, rest, hdec, hexec⟩ := step_next_cases hstep
  · rw [hrun] at hstop
    cases hstop
  · obtain ⟨hinte, -, -⟩ := exec_control hexec
    simp only [hinte, inteAfter_eq, fetched_eq_iff hdec (j := .ei) rfl rfl (by decide),
      fetched_eq_iff hdec (j := .di) rfl rfl (by decide)]

/-! ### INTE is an input of nothing (R21) -/

section
variable (s : State) (b : Bool)

theorem State.readReg8_setInte (r : Reg8) : (s.setInte b).readReg8 r = s.readReg8 r := by
  cases r <;> rfl

theorem State.readRp_setInte (rp : Rp) : (s.setInte b).readRp rp = s.readRp rp := by
  cases rp <;> rfl

theorem State.writeReg8_setInte (r : Reg8) (v : Byte) :
    (s.setInte b).writeReg8 r v = (s.writeReg8 r v).setInte b := by
  cases r <;> rfl

theorem State.writeRp_setInte (rp : Rp) (v : Word) :
    (s.setInte b).writeRp rp v = (s.writeRp rp v).setInte b := by
  cases rp <;> rfl

theorem State.writeStackRp_setInte (rp : StackRp) (v : Word) :
    (s.setInte b).writeStackRp rp v = (s.writeStackRp rp v).setInte b := by
  cases rp <;> rfl

theorem State.jumpIf_setInte (cond : Cond) (target : Word) :
    (s.setInte b).jumpIf cond target = (s.jumpIf cond target).setInte b := by
  rw [State.jumpIf, State.jumpIf, apply_ite (State.setInte · b)]
  rfl

theorem State.callIf_setInte (cond : Cond) (target : Word) :
    (s.setInte b).callIf cond target = (s.callIf cond target).setInte b := by
  rw [State.callIf, State.callIf, apply_ite (State.setInte · b)]
  rfl

theorem State.returnIf_setInte (cond : Cond) :
    (s.setInte b).returnIf cond = (s.returnIf cond).setInte b := by
  rw [State.returnIf, State.returnIf, apply_ite (State.setInte · b)]
  rfl

end

/-- An instruction run with another INTE ends as before but for INTE. -/
theorem exec_setInte {i : Instr} {s t : State} (b : Bool) (h : exec i s = .next t) :
    exec i (s.setInte b) = .next (t.setInte (inteAfter i b)) := by
  cases i <;> obtain rfl := eq_of_exec rfl h <;> refine congrArg Host.Outcome.next ?_
  case mov => rw [State.writeReg8_setInte, State.readReg8_setInte]; rfl
  case mvi => rw [State.writeReg8_setInte]; rfl
  case inr | dcr => rw [State.setCount, State.writeReg8_setInte, State.readReg8_setInte]; rfl
  case lxi | inx | dcx => rw [State.writeRp_setInte]; rfl
  case jnz | jz | jnc | jc | jpo | jpe | jp | jm => exact s.jumpIf_setInte b _ _
  case cnz | cz | cnc | cc | cpo | cpe | cp | cm => exact s.callIf_setInte b _ _
  case rnz | rz | rnc | rc | rpo | rpe | rp | rm => exact s.returnIf_setInte b _
  case add | adc | sub | sbb | ana | xra | ora | cmp => rw [State.readReg8_setInte]; rfl
  case dad => rw [State.readRp_setInte]; rfl
  case pop rp =>
    exact congrArg (State.advance · 1) (s.dropTop.writeStackRp_setInte b rp s.topOfStack)
  all_goals rfl

/-- Settles O15: the fetch reads no INTE, and `exec` carries it along. -/
theorem inteIsNeverRead : Obligations.InteIsNeverRead := by
  unfold Obligations.InteIsNeverRead
  intro s b
  have hfetch : (s.setInte b).fetchBytes = s.fetchBytes := rfl
  refine ⟨fun t hstep => ?next, fun f hstep => ?fault⟩
  case next =>
    obtain ⟨hstop, rfl⟩ | ⟨hrun, i, rest, hdec, hexec⟩ := step_next_cases hstep
    · exact ⟨b, step_of_halted hstop⟩
    · exact ⟨_, (step_of_decode (s := s.setInte b) hrun hdec).trans (exec_setInte b hexec)⟩
  case fault =>
    rw [stepFaultsOnlyOnUndefinedOpcode] at hstep ⊢
    exact hstep

end Sys2Proof.Machine

/-! # Data transfer (40_data_transfer.md R56, R58, R61 to R67) -/

namespace Sys2Proof.Machine

/-! ### Bytes of a word, as the statements spell it (R9) -/

@[simp] theorem hiByte_append (hi lo : Byte) : hiByte (hi ++ lo) = hi := hiByte_mkWord hi lo

@[simp] theorem loByte_append (hi lo : Byte) : loByte (hi ++ lo) = lo := loByte_mkWord hi lo

theorem append_bytes (v : Word) : hiByte v ++ loByte v = v := mkWord_bytes v

theorem State.setBC_append (s : State) (hi lo : Byte) :
    s.setBC (hi ++ lo) = { s with b := hi, c := lo } := by
  rw [State.setBC, hiByte_append, loByte_append]
  rfl

theorem State.setDE_append (s : State) (hi lo : Byte) :
    s.setDE (hi ++ lo) = { s with d := hi, e := lo } := by
  rw [State.setDE, hiByte_append, loByte_append]
  rfl

theorem State.setHL_append (s : State) (hi lo : Byte) :
    s.setHL (hi ++ lo) = { s with h := hi, l := lo } := by
  rw [State.setHL, hiByte_append, loByte_append]
  rfl

theorem State.bc_eq_append (s : State) : s.bc = s.b ++ s.c := rfl

theorem State.de_eq_append (s : State) : s.de = s.d ++ s.e := rfl

theorem State.readWord_eq_append (s : State) (x : Word) :
    s.readWord x = s.readByte (x + 1) ++ s.readByte x := rfl

/-- A two-byte write, read with the lower address first: the two addresses differ. -/
theorem State.readByte_writeWord_append (s : State) (x y : Word) (hi lo : Byte) :
    (s.writeWord x (hi ++ lo)).readByte y =
      if y = x then lo else if y = x + 1 then hi else s.readByte y := by
  have hne : x ≠ x + 1 := by bv_omega
  rw [s.readByte_writeWord, hiByte_append, loByte_append]
  by_cases hyx : y = x
  · rw [if_pos hyx, if_pos hyx, if_neg (hyx ▸ hne)]
  · rw [if_neg hyx, if_neg hyx]

/-! ### What the instructions answer -/

theorem exec_mov (dst src : Reg8) (s : State) :
    exec (.mov dst src) s = .next ((s.writeReg8 dst (s.readReg8 src)).advance 1) := rfl

theorem exec_lxi (rp : Rp) (d16 : Word) (s : State) :
    exec (.lxi rp d16) s = .next ((s.writeRp rp d16).advance 3) := rfl

theorem exec_lhld (a16 : Word) (s : State) :
    exec (.lhld a16) s = .next ((s.setHL (s.readWord a16)).advance 3) := rfl

theorem exec_shld (a16 : Word) (s : State) :
    exec (.shld a16) s = .next ((s.writeWord a16 s.hl).advance 3) := rfl

theorem exec_ldax (rp : IndRp) (s : State) :
    exec (.ldax rp) s = .next ((s.setA (s.readByte (s.readIndRp rp))).advance 1) := rfl

theorem exec_stax (rp : IndRp) (s : State) :
    exec (.stax rp) s = .next ((s.writeByte (s.readIndRp rp) s.a).advance 1) := rfl

theorem exec_xchg (s : State) :
    exec .xchg s = .next (((s.setDE s.hl).setHL s.de).advance 1) := rfl

theorem exec_xthl (s : State) :
    exec .xthl s = .next (((s.writeWord s.sp s.hl).setHL (s.readWord s.sp)).advance 1) := rfl

theorem exec_sphl (s : State) : exec .sphl s = .next ((s.setSp s.hl).advance 1) := rfl

/-- The opcode byte of MOV as a number (R44, R56). -/
theorem encode_mov (dst src : Reg8) :
    encode (.mov dst src) = [BitVec.ofNat 8 (0x40 + 8 * dst.code.toNat + src.code.toNat)] := by
  cases dst <;> cases src <;> rfl

/-- Settles O22: the operand write of R8 with the source's old value, then PC on by 1. -/
theorem movCopiesOperand : Obligations.MovCopiesOperand := by
  unfold Obligations.MovCopiesOperand
  intro dst r s
  obtain ⟨-, hpc, hflags, -⟩ := s.writeReg8_frame dst (s.readReg8 r)
  refine ⟨fun h => decodesTo_of_encode (wellFormed_mov_iff.mpr h) (encode_mov dst r), _,
    exec_mov dst r s, (s.writeReg8_wroteOperand dst (s.readReg8 r)).advance 1, hflags, ?pc⟩
  case pc => exact congrArg (· + 1) hpc

/-- Settles O24: one pair update for each form. -/
theorem lxiLoadsPair : Obligations.LxiLoadsPair := by
  unfold Obligations.LxiLoadsPair
  intro lo hi s
  refine ⟨⟨decodesTo_of_imm16 (build := .lxi .bc) rfl lo hi, ?bc⟩,
    ⟨decodesTo_of_imm16 (build := .lxi .de) rfl lo hi, ?de⟩,
    ⟨decodesTo_of_imm16 (build := .lxi .hl) rfl lo hi, ?hl⟩,
    ⟨decodesTo_of_imm16 (build := .lxi .sp) rfl lo hi, rfl⟩⟩
  case bc =>
    rw [exec_lxi, State.writeRp, s.setBC_append]
    rfl
  case de =>
    rw [exec_lxi, State.writeRp, s.setDE_append]
    rfl
  case hl =>
    rw [exec_lxi, State.writeRp, s.setHL_append]
    rfl

/-- Settles O26: the pair HL with the word at the address, low byte first. -/
theorem lhldShldMovePair : Obligations.LhldShldMovePair := by
  unfold Obligations.LhldShldMovePair
  intro lo hi s
  refine ⟨⟨decodesTo_of_imm16 (build := .lhld) rfl lo hi, ?lhld⟩,
    decodesTo_of_imm16 (build := .shld) rfl lo hi, _, exec_shld (hi ++ lo) s, fun x => ?stored, rfl⟩
  case lhld =>
    rw [exec_lhld, s.readWord_eq_append, s.setHL_append]
    rfl
  case stored => rw [State.readByte_advance, s.hl_eq_append, s.readByte_writeWord_append]

/-- Settles O27: one register update or one byte write at the pair. -/
theorem ldaxStaxMoveAccumulator : Obligations.LdaxStaxMoveAccumulator := by
  unfold Obligations.LdaxStaxMoveAccumulator
  intro s
  refine ⟨⟨decodesTo_of_plain rfl, exec_ldax .bc s⟩, ⟨decodesTo_of_plain rfl, exec_ldax .de s⟩,
    ⟨decodesTo_of_plain rfl, _, exec_stax .bc s, fun x => ?bc, rfl⟩,
    ⟨decodesTo_of_plain rfl, _, exec_stax .de s, fun x => ?de, rfl⟩⟩
  case bc => rw [State.readByte_advance, State.readByte_writeByte, State.readIndRp, s.bc_eq_append]
  case de => rw [State.readByte_advance, State.readByte_writeByte, State.readIndRp, s.de_eq_append]

/-- XCHG register by register (R65). -/
theorem exec_xchg_eq (s : State) :
    exec .xchg s = .next { s with d := s.h, e := s.l, h := s.d, l := s.e, pc := s.pc + 1 } := by
  rw [exec_xchg, s.hl_eq_append, s.de_eq_append, s.setDE_append, State.setHL_append]
  rfl

/-- Settles O28: the exchange register by register, twice for the round trip. -/
theorem xchgSphlMovePairs : Obligations.XchgSphlMovePairs := by
  unfold Obligations.XchgSphlMovePairs
  intro s
  refine ⟨decodesTo_of_plain rfl, exec_xchg_eq s, ?twice, decodesTo_of_plain rfl, exec_sphl s⟩
  have hpc : s.pc + 1 + 1 = s.pc + 2 := by bv_omega
  simp only [execSeq, exec_xchg_eq, hpc]

/-- XTHL field by field (R66). -/
theorem exec_xthl_eq (s : State) : exec .xthl s = .next { s with
    h := s.readByte (s.sp + 1)
    l := s.readByte s.sp
    mem := (s.writeWord s.sp (s.h ++ s.l)).mem
    pc := s.pc + 1 } := by
  rw [exec_xthl, s.readWord_eq_append, s.hl_eq_append, State.setHL_append]
  rfl

/-- Settles O29: the two bytes written are the ones `writeWord` leaves, low byte first. -/
theorem xthlExchangesTopOfStack : Obligations.XthlExchangesTopOfStack := by
  unfold Obligations.XthlExchangesTopOfStack
  exact ⟨decodesTo_of_plain rfl, fun s => ⟨_, exec_xthl_eq s, rfl, rfl,
    fun x => s.readByte_writeWord_append s.sp x s.h s.l, rfl⟩⟩

/-! # Control and ports (45_control.md, 46_io.md) -/

/-- Settles O56: one update each, then PC on by 1. -/
theorem nopAndInterruptEnable : Obligations.NopAndInterruptEnable := by
  unfold Obligations.NopAndInterruptEnable
  exact ⟨⟨decodesTo_of_plain rfl, decodesTo_of_plain rfl, decodesTo_of_plain rfl⟩,
    fun s => ⟨rfl, rfl, rfl⟩⟩

/-- Settles O57: the stop is the only update beside PC. -/
theorem hltStopsTheCpu : Obligations.HltStopsTheCpu := by
  unfold Obligations.HltStopsTheCpu
  exact ⟨decodesTo_of_plain rfl, fun s => ⟨(s.setHalted true).advance 1, rfl, rfl⟩⟩

/-- Settles O58: no port holds a value, and each reads 0xFF. -/
theorem portsAreVoid : Obligations.PortsAreVoid := by
  unfold Obligations.PortsAreVoid
  exact fun port s => ⟨decodesTo_of_imm8 (build := .outPort) rfl port, rfl,
    decodesTo_of_imm8 (build := .inPort) rfl port, rfl⟩

end Sys2Proof.Machine

/-! # Stack (44_stack.md), calls and returns (43_branch.md R112 to R130) -/

namespace Sys2Proof.Machine

/-! ### Push and pop (R134, R135) -/

section
variable (s : State) (v : Word)

/-- What a push leaves in memory, at the old SP's two lower neighbours. -/
theorem State.readByte_push16_below (y : Word) :
    (s.push16 v).readByte y =
      if y = s.sp - 1 then hiByte v else if y = s.sp - 2 then loByte v else s.readByte y := by
  have hne : s.sp - 1 ≠ s.sp - 2 := by bv_omega
  rw [s.readByte_push16, sub_two_add_one]
  by_cases hy : y = s.sp - 1
  · rw [if_pos hy, if_pos hy, if_neg (hy ▸ hne)]
  · rw [if_neg hy, if_neg hy]

theorem State.readByte_push16_hi : (s.push16 v).readByte (s.sp - 1) = hiByte v := by
  rw [s.readByte_push16_below, if_pos rfl]

theorem State.readByte_push16_lo : (s.push16 v).readByte (s.sp - 2) = loByte v := by
  have hne : s.sp - 2 ≠ s.sp - 1 := by bv_omega
  rw [s.readByte_push16_below, if_neg hne, if_pos rfl]

theorem State.push16_word :
    (s.push16 v).readByte (s.sp - 1) ++ (s.push16 v).readByte (s.sp - 2) = v := by
  rw [s.readByte_push16_hi, s.readByte_push16_lo, append_bytes]

theorem State.readByte_push16_of_ne {x : Word} (hhi : x ≠ s.sp - 1) (hlo : x ≠ s.sp - 2) :
    (s.push16 v).readByte x = s.readByte x := by
  rw [s.readByte_push16_below, if_neg hhi, if_neg hlo]

theorem State.push16_sp : (s.push16 v).sp = s.sp - 2 := rfl

theorem State.topOfStack_eq_append : s.topOfStack = s.readByte (s.sp + 1) ++ s.readByte s.sp := rfl

theorem State.topOfStack_push16 : (s.push16 v).topOfStack = v := by
  rw [State.topOfStack_eq_append, s.push16_sp, sub_two_add_one, s.push16_word]

theorem State.dropTop_push16_sp : (s.push16 v).dropTop.sp = s.sp := by
  show s.sp - 2 + 2 = s.sp
  bv_omega

end

/-- Settles O51: the two bytes of a push, and the pop that reads them back. -/
theorem pushSixteenPopSixteen : Obligations.PushSixteenPopSixteen := by
  unfold Obligations.PushSixteenPopSixteen
  exact fun v s => ⟨s.push16_word v, fun x => s.readByte_push16_of_ne v, s.push16_eq v,
    s.topOfStack_eq_append, s.dropTop_eq, s.topOfStack_push16 v, s.dropTop_push16_sp v⟩

/-! ### Calls -/

/-- `t` is `s` after a call from before `ret` to `target` (R112). -/
def CalledFrom (s : State) (ret target : Word) (t : State) : Prop :=
  t.readByte (s.sp - 1) ++ t.readByte (s.sp - 2) = ret ∧
    (∀ x, x ≠ s.sp - 1 → x ≠ s.sp - 2 → t.readByte x = s.readByte x) ∧
    t = { s with sp := s.sp - 2, mem := t.mem, pc := target }

theorem State.callTo_calledFrom (s : State) (len : Nat) (target : Word) :
    CalledFrom s (s.npc len) target (s.callTo len target) :=
  ⟨s.push16_word _, fun _ => s.readByte_push16_of_ne _, rfl⟩

theorem exec_call (a16 : Word) (s : State) : exec (.call a16) s = .next (s.callTo 3 a16) := rfl

theorem exec_rst (n : BitVec 3) (s : State) :
    exec (.rst n) s = .next (s.callTo 1 (BitVec.ofNat 16 (n.toNat * 8))) := rfl

/-- Settles O46: the call of PC + 3. -/
theorem callPushesReturnAddress : Obligations.CallPushesReturnAddress := by
  unfold Obligations.CallPushesReturnAddress
  exact fun lo hi s => ⟨decodesTo_of_imm16 (build := .call) rfl lo hi, _,
    exec_call (hi ++ lo) s, s.callTo_calledFrom 3 (hi ++ lo)⟩

/-- `11 NNN 111` is the opcode byte of RST (R47). -/
theorem decodeOpcode_rst (n : BitVec 3) :
    decodeOpcode (BitVec.ofNat 8 (0xC7 + 8 * n.toNat)) = some (.plain (.rst n)) := by
  obtain rfl | rfl | rfl | rfl | rfl | rfl | rfl | rfl := code3_cases n <;> rfl

/-- Settles O49: the call of PC + 1 to `8 n`, which is below 64. -/
theorem rstCallsFixedAddress : Obligations.RstCallsFixedAddress := by
  unfold Obligations.RstCallsFixedAddress
  intro n s
  obtain ⟨hword, hframe, -⟩ := s.callTo_calledFrom 1 (BitVec.ofNat 16 (n.toNat * 8))
  refine ⟨decodesTo_of_plain (decodeOpcode_rst n), _, exec_rst n s, ?target, hword, hframe, rfl⟩
  have hn := n.isLt
  show (BitVec.ofNat 16 (n.toNat * 8)).toNat = 8 * n.toNat
  rw [BitVec.toNat_ofNat, Nat.mod_eq_of_lt (by omega), Nat.mul_comm]

theorem decodesTo_callOn (cond : Cond) (lo hi : Byte) :
    DecodesTo [0b11#2 ++ cond.code ++ 0b100#3, lo, hi] (callOn cond (hi ++ lo)) := by
  have hop : decodeOpcode (0b11#2 ++ cond.code ++ 0b100#3) = some (.imm16 (callOn cond)) := by
    cases cond <;> rfl
  exact decodesTo_of_imm16 hop lo hi

theorem exec_callOn (cond : Cond) (a16 : Word) (s : State) :
    exec (callOn cond a16) s = .next (s.callIf cond a16) := by
  cases cond <;> rfl

/-- The call on a condition, with what the table of R102 asks in the spelling `taken`. -/
theorem exec_callOn_cases {cond : Cond} {s : State} {taken : Prop}
    (htaken : taken ↔ cond.Asks s.flags) (a16 : Word) :
    ∃ t, exec (callOn cond a16) s = .next t ∧ (taken → CalledFrom s (s.pc + 3) a16 t) ∧
      (¬taken → t = { s with pc := s.pc + 3 }) := by
  rw [← condHolds_iff_asks] at htaken
  refine ⟨_, exec_callOn cond a16 s, ?_⟩
  obtain ⟨hcond, hcall⟩ | ⟨hcond, hcall⟩ := s.callIf_cases cond a16
  · rw [hcall]
    exact ⟨fun _ => s.callTo_calledFrom 3 a16, fun hnot => absurd (htaken.mpr hcond) hnot⟩
  · rw [hcall]
    exact ⟨fun h => absurd (htaken.mp h) (by simp [hcond]), fun _ => rfl⟩

/-- Settles O47: the one law of the call on a condition, at the eight rows of R102. -/
theorem conditionalCalls : Obligations.ConditionalCalls := by
  unfold Obligations.ConditionalCalls
  intro lo hi s
  refine ⟨⟨decodesTo_callOn .nz lo hi, decodesTo_callOn .z lo hi, decodesTo_callOn .nc lo hi,
    decodesTo_callOn .c lo hi, decodesTo_callOn .po lo hi, decodesTo_callOn .pe lo hi,
    decodesTo_callOn .p lo hi, decodesTo_callOn .m lo hi⟩, fun i taken hi => ?_⟩
  obtain ⟨rfl, h⟩ | ⟨rfl, h⟩ | ⟨rfl, h⟩ | ⟨rfl, h⟩ | ⟨rfl, h⟩ | ⟨rfl, h⟩ | ⟨rfl, h⟩ | ⟨rfl, h⟩ := hi
  · exact exec_callOn_cases (cond := .nz) h _
  · exact exec_callOn_cases (cond := .z) h _
  · exact exec_callOn_cases (cond := .nc) h _
  · exact exec_callOn_cases (cond := .c) h _
  · exact exec_callOn_cases (cond := .po) h _
  · exact exec_callOn_cases (cond := .pe) h _
  · exact exec_callOn_cases (cond := .p) h _
  · exact exec_callOn_cases (cond := .m) h _

/-! ### Returns -/

/-- A return field by field (R121). -/
theorem State.returnFrom_eq_with (s : State) : s.returnFrom =
    { s with pc := s.readByte (s.sp + 1) ++ s.readByte s.sp, sp := s.sp + 2 } := rfl

theorem exec_ret (s : State) : exec .ret s = .next s.returnFrom := rfl

theorem decodesTo_retOn (cond : Cond) :
    DecodesTo [0b11#2 ++ cond.code ++ 0b000#3] (retOn cond) := by
  have hop : decodeOpcode (0b11#2 ++ cond.code ++ 0b000#3) = some (.plain (retOn cond)) := by
    cases cond <;> rfl
  exact decodesTo_of_plain hop

theorem exec_retOn (cond : Cond) (s : State) :
    exec (retOn cond) s = .next (s.returnIf cond) := by
  cases cond <;> rfl

/-- The return on a condition, with what the table of R102 asks in the spelling `taken`. -/
theorem exec_retOn_cases {cond : Cond} {s : State} {taken : Prop}
    (htaken : taken ↔ cond.Asks s.flags) :
    ∃ t, exec (retOn cond) s = .next t ∧
      (taken → t = { s with pc := s.readByte (s.sp + 1) ++ s.readByte s.sp, sp := s.sp + 2 }) ∧
      (¬taken → t = { s with pc := s.pc + 1 }) := by
  rw [← condHolds_iff_asks] at htaken
  refine ⟨_, exec_retOn cond s, ?_⟩
  obtain ⟨hcond, hret⟩ | ⟨hcond, hret⟩ := s.returnIf_cases cond
  · rw [hret]
    exact ⟨fun _ => s.returnFrom_eq_with, fun hnot => absurd (htaken.mpr hcond) hnot⟩
  · rw [hret]
    exact ⟨fun h => absurd (htaken.mp h) (by simp [hcond]), fun _ => rfl⟩

/-- Settles O48: RET, and the one law of the return on a condition at the eight rows of R102. -/
theorem returnsPopPc : Obligations.ReturnsPopPc := by
  unfold Obligations.ReturnsPopPc
  refine ⟨⟨decodesTo_of_plain rfl, decodesTo_retOn .nz, decodesTo_retOn .z, decodesTo_retOn .nc,
    decodesTo_retOn .c, decodesTo_retOn .po, decodesTo_retOn .pe, decodesTo_retOn .p,
    decodesTo_retOn .m⟩, fun i taken s hi => ?_⟩
  obtain ⟨rfl, h⟩ | ⟨rfl, h⟩ | ⟨rfl, h⟩ | ⟨rfl, h⟩ | ⟨rfl, h⟩ | ⟨rfl, h⟩ | ⟨rfl, h⟩ | ⟨rfl, h⟩ |
    ⟨rfl, h⟩ := hi
  · exact ⟨_, exec_ret s, fun _ => s.returnFrom_eq_with, fun hnot => absurd (h.mpr trivial) hnot⟩
  · exact exec_retOn_cases (cond := .nz) h
  · exact exec_retOn_cases (cond := .z) h
  · exact exec_retOn_cases (cond := .nc) h
  · exact exec_retOn_cases (cond := .c) h
  · exact exec_retOn_cases (cond := .po) h
  · exact exec_retOn_cases (cond := .pe) h
  · exact exec_retOn_cases (cond := .p) h
  · exact exec_retOn_cases (cond := .m) h

/-- A return from a call goes on after the call, its stack back where it was. -/
theorem CalledFrom.returnFrom {s t : State} {ret target : Word} (h : CalledFrom s ret target t) :
    t.returnFrom = { s with mem := t.mem, pc := ret } := by
  obtain ⟨hword, -, ht⟩ := h
  have hsp : t.sp = s.sp - 2 := by rw [ht]
  have htop : t.topOfStack = ret := by
    rw [t.topOfStack_eq_append, hsp, sub_two_add_one, hword]
  rw [t.returnFrom_eq, htop, hsp, BitVec.sub_add_cancel, ht]
  rfl

/-- Settles O50: the return finds the address that the call pushed. -/
theorem callThenRetComesBack : Obligations.CallThenRetComesBack := by
  unfold Obligations.CallThenRetComesBack
  intro target s
  have hcall := s.callTo_calledFrom 3 target
  have ⟨_, hframe, _⟩ := hcall
  refine ⟨{ s with mem := (s.callTo 3 target).mem, pc := s.npc 3 }, ?seq, hframe, rfl⟩
  simp only [execSeq, exec_call, exec_ret, hcall.returnFrom]

/-! ### PUSH and POP (R136, R137) -/

theorem exec_push (rp : StackRp) (s : State) :
    exec (.push rp) s = .next ((s.push16 (s.readStackRp rp)).advance 1) := rfl

theorem exec_pop (rp : StackRp) (s : State) :
    exec (.pop rp) s = .next ((s.dropTop.writeStackRp rp s.topOfStack).advance 1) := rfl

/-- The flag byte under the default layout, S Z 0 AC 0 P 1 CY (R20). -/
theorem toNat_packFlags_standard (f : Flags) :
    (packFlags PswLayout.standard f).toNat =
      128 * f.s.toNat + 64 * f.z.toNat + 16 * f.ac.toNat + 4 * f.p.toNat + 2 + f.cy.toNat := by
  obtain ⟨s, z, ac, p, cy⟩ := f
  revert s z ac p cy
  decide

/-- Settles O52: the push of the pair's two bytes. -/
theorem pushStoresPair : Obligations.PushStoresPair := by
  unfold Obligations.PushStoresPair
  refine ⟨⟨decodesTo_of_plain rfl, decodesTo_of_plain rfl, decodesTo_of_plain rfl,
    decodesTo_of_plain rfl⟩, fun rp hi lo s hpair => ⟨fun hlayout hpsw => ?flagByte, ?push⟩⟩
  case flagByte =>
    subst hpsw
    obtain ⟨h, -⟩ | ⟨h, -⟩ | ⟨h, -⟩ | ⟨-, -, rfl⟩ := hpair
    iterate 3 cases h
    rw [hlayout, toNat_packFlags_standard]
  case push =>
    have hword : s.readStackRp rp = hi ++ lo := by
      obtain ⟨rfl, rfl, rfl⟩ | ⟨rfl, rfl, rfl⟩ | ⟨rfl, rfl, rfl⟩ | ⟨rfl, rfl, rfl⟩ := hpair <;> rfl
    refine ⟨_, exec_push rp s, fun x => ?_, rfl⟩
    rw [State.readByte_advance, s.readByte_push16_below, hword, hiByte_append, loByte_append]

/-- Settles O53: the pair or PSW gets the word on top of the stack. -/
theorem popLoadsPair : Obligations.PopLoadsPair := by
  unfold Obligations.PopLoadsPair
  refine ⟨⟨decodesTo_of_plain rfl, decodesTo_of_plain rfl, decodesTo_of_plain rfl,
    decodesTo_of_plain rfl⟩, fun s => ⟨?bc, ?de, ?hl, ?psw⟩⟩
  case bc =>
    rw [exec_pop, State.writeStackRp, s.topOfStack_eq_append, State.setBC_append]
    rfl
  case de =>
    rw [exec_pop, State.writeStackRp, s.topOfStack_eq_append, State.setDE_append]
    rfl
  case hl =>
    rw [exec_pop, State.writeStackRp, s.topOfStack_eq_append, State.setHL_append]
    rfl
  case psw =>
    rw [exec_pop, State.writeStackRp, s.topOfStack_eq_append, State.setPsw, hiByte_append,
      loByte_append]
    rfl

/-! ### The flag byte (R20) -/

theorem getLsbD_packFlags (y : PswLayout) (f : Flags) (i : Fin 8) :
    (packFlags y f).getLsbD i.val = flagBit y f i := by
  rw [packFlags]
  iterate 7 rw [BitVec.getLsbD_append]
  fin_cases i <;> simp

/-- Under a layout with a bit for each flag, unpacking undoes packing. -/
theorem unpackFlags_packFlags {y : PswLayout} (h : y.wf = true) (f : Flags) :
    unpackFlags y (packFlags y f) = f := by
  simp only [PswLayout.wf, decide_eq_true_eq, List.nodup_cons, List.mem_cons, List.not_mem_nil,
    or_false, not_or] at h
  obtain ⟨⟨hzs, hacs, hps, hcys⟩, ⟨hacz, hpz, hcyz⟩, ⟨hpac, hcyac⟩, hcyp, -⟩ := h
  simp only [unpackFlags, getLsbD_packFlags, flagBit, Ne.symm hzs, Ne.symm hacs, Ne.symm hps,
    Ne.symm hcys, Ne.symm hacz, Ne.symm hpz, Ne.symm hcyz, Ne.symm hpac, Ne.symm hcyac,
    Ne.symm hcyp, if_true, if_false]

/-- The default layout keeps the five flag bits of a byte and fixes bits 5, 3, 1 as 0, 0, 1. -/
theorem packFlags_unpackFlags_standard (v : Byte) :
    packFlags PswLayout.standard (unpackFlags PswLayout.standard v) = (v &&& 0xD5) ||| 0x02 := by
  revert v
  decide

/-- Settles O54: POP PSW unpacks the byte that PUSH PSW packed, wherever the stack lies. -/
theorem pswRoundTrip : Obligations.PswRoundTrip := by
  unfold Obligations.PswRoundTrip
  intro s u a f hlayout hpush
  obtain rfl := eq_of_exec (exec_push .psw s) hpush
  have htop : (s.push16 s.psw).topOfStack = s.a ++ packFlags s.params.pswLayout s.flags :=
    s.topOfStack_push16 s.psw
  refine ⟨_, exec_pop .psw _, ?a, ?flags, s.dropTop_push16_sp s.psw⟩
  case a => exact (congrArg hiByte htop).trans (hiByte_append _ _)
  case flags =>
    calc unpackFlags s.params.pswLayout (loByte (s.push16 s.psw).topOfStack)
      _ = unpackFlags s.params.pswLayout (packFlags s.params.pswLayout s.flags) := by
        rw [htop, loByte_append]
      _ = s.flags := unpackFlags_packFlags hlayout s.flags

/-- POP PSW field by field (R137). -/
theorem exec_pop_psw (s : State) : exec (.pop .psw) s = .next { s with
    a := s.readByte (s.sp + 1)
    flags := unpackFlags s.params.pswLayout (s.readByte s.sp)
    sp := s.sp + 2
    pc := s.pc + 1 } := by
  rw [exec_pop, State.writeStackRp, s.topOfStack_eq_append, State.setPsw, hiByte_append,
    loByte_append]
  rfl

/-- PSW on the stack: A above the flag byte (R136). -/
theorem State.readByte_push16_psw (s : State) (x : Word) :
    (s.push16 s.psw).readByte x =
      if x = s.sp - 1 then s.a
      else if x = s.sp - 2 then packFlags s.params.pswLayout s.flags else s.readByte x := by
  rw [s.readByte_push16_below, State.psw, hiByte_mkWord, loByte_mkWord]

/-- Settles O55: the high byte is written back as it was, the low one through the layout. -/
theorem pswKeepsOnlyFlagBits : Obligations.PswKeepsOnlyFlagBits := by
  unfold Obligations.PswKeepsOnlyFlagBits
  intro s hlayout
  simp only [execSeq, exec_pop_psw, exec_push]
  refine ⟨_, rfl, BitVec.add_sub_cancel _ _, fun x => (State.readByte_push16_psw _ x).trans ?_⟩
  have hhi : s.sp + 2 - 1 = s.sp + 1 := by bv_omega
  have hne : s.sp + 1 ≠ s.sp := by bv_omega
  simp only [hhi, BitVec.add_sub_cancel, hlayout, packFlags_unpackFlags_standard]
  by_cases hx : x = s.sp + 1
  · rw [if_pos hx, hx, if_neg hne]
  · rw [if_neg hx]
    rfl

end Sys2Proof.Machine

/-! # Arithmetic and logic (41_arithmetic.md, 42_logical.md R86 to R94) -/

namespace Sys2Proof.Machine

/-! ### S, Z and P of a result (R14, R15) -/

/-- Counting the bits of a byte that are set adds the bits as numbers. -/
theorem sum_bits_eq_countP (v : Byte) (bits : List Nat) :
    (bits.map fun i => v.toNat / 2 ^ i % 2).sum = bits.countP fun i => v.getLsbD i := by
  induction bits with
  | nil => rfl
  | cons i bits ih =>
    rw [List.map_cons, List.sum_cons, List.countP_cons, ih, BitVec.getLsbD, ← Nat.toNat_testBit]
    cases v.toNat.testBit i <;> simp [Nat.add_comm]

theorem parityEven_eq (v : Byte) :
    parityEven v =
      decide (((List.range 8).map (fun i => v.toNat / 2 ^ i % 2)).sum % 2 = 0) := by
  rw [sum_bits_eq_countP]
  rfl

theorem getLsbD_seven_eq (v : Byte) : v.getLsbD 7 = decide (v.toNat ≥ 128) := by
  have hbit := toNat_getLsbD_seven v
  have hv := v.isLt
  cases hb : v.getLsbD 7 <;> simp only [hb, Bool.toNat_true, Bool.toNat_false] at hbit <;>
    simp <;> omega

theorem beq_zero_eq (v : Byte) : (v == 0x00) = decide (v.toNat = 0) := by
  rw [Bool.eq_iff_iff, beq_iff_eq, decide_eq_true_eq, ← BitVec.toNat_inj]
  rfl

/-- What `set_SZP` computes is what R14 and R15 say. -/
theorem setSZP_resultFlags (f : Flags) (v : Byte) : ResultFlags (setSZP f v) v :=
  ⟨getLsbD_seven_eq v, beq_zero_eq v, parityEven_eq v⟩

theorem arithFlags_resultFlags (f : Flags) (r : AluOut) : ResultFlags (arithFlags f r) r.res :=
  setSZP_resultFlags f r.res

theorem stepFlags_resultFlags (f : Flags) (r : AluOut) : ResultFlags (stepFlags f r) r.res :=
  setSZP_resultFlags f r.res

theorem logicFlags_resultFlags (f : Flags) (v : Byte) (ac : Bool) :
    ResultFlags (logicFlags f v ac) v :=
  setSZP_resultFlags f v

/-! ### The low digit of a byte (R16) -/

theorem toNat_and_lowDigit (v : Byte) : (v &&& 0x0F#8).toNat = v.toNat % 16 := by
  rw [BitVec.toNat_and]
  exact Nat.and_two_pow_sub_one_eq_mod v.toNat 4

theorem toNat_not_and_lowDigit (v : Byte) : (~~~v &&& 0x0F#8).toNat = 15 - v.toNat % 16 := by
  have hv := v.isLt
  rw [toNat_and_lowDigit, BitVec.toNat_not]
  omega

/-! ### Additions (R18) and subtractions (R19) as numbers -/

section
variable (a b : Byte) (cin : Bool)

theorem add8_res_toNat : (add8 a b cin).res.toNat = (a.toNat + b.toNat + cin.toNat) % 256 :=
  BitVec.toNat_ofNat _ _

theorem add8_cy : (add8 a b cin).cy = decide (a.toNat + b.toNat + cin.toNat ≥ 256) := rfl

theorem add8_ac :
    (add8 a b cin).ac = decide (a.toNat % 16 + b.toNat % 16 + cin.toNat ≥ 16) := by
  simp only [add8, toNat_and_lowDigit]
  rfl

end

section
variable (conv : AcSub) (a b : Byte) (bin : Bool)

theorem sub8_res_toNat :
    ((sub8 conv a b bin).res.toNat + b.toNat + bin.toNat) % 256 = a.toNat := by
  have ha := a.isLt
  have hexact := sub8_exact conv a b bin
  omega

theorem sub8_cy : (sub8 conv a b bin).cy = decide (a.toNat < b.toNat + bin.toNat) := by
  simp only [sub8, decide_eq_decide]
  omega

theorem sub8_ac_noBorrow : (sub8 .noBorrow a b bin).ac =
    decide (b.toNat % 16 + bin.toNat ≤ a.toNat % 16) := by
  have hbin := bin.toNat_le
  simp only [sub8, subAC, toNat_not_and_lowDigit, decide_eq_decide]
  rw [toNat_and_lowDigit]
  omega

theorem sub8_ac_borrow : (sub8 .borrow a b bin).ac =
    decide (a.toNat % 16 < b.toNat % 16 + bin.toNat) := by
  simp only [sub8, subAC, toNat_and_lowDigit, decide_eq_decide]
  omega

end

/-- Without a borrow in, the difference is that of the two bytes. -/
theorem sub8_res_eq_sub (conv : AcSub) (a b : Byte) : (sub8 conv a b false).res = a - b := by
  have hres := sub8_res_toNat conv a b false
  rw [Bool.toNat_false] at hres
  bv_omega

/-! ### ADD, ADC, ADI, ACI and SUB, SBB, SUI, SBI (R70 to R77) -/

/-- Settles O30: the four forms are one addition, with or without CY in. -/
theorem additionsAddAndCarry : Obligations.AdditionsAddAndCarry := by
  unfold Obligations.AdditionsAddAndCarry
  refine ⟨fun r => ⟨decodesTo_of_plain (by cases r <;> rfl),
      decodesTo_of_plain (by cases r <;> rfl)⟩,
    fun d8 => ⟨decodesTo_of_imm8 (build := .adi) rfl d8, decodesTo_of_imm8 (build := .aci) rfl d8⟩,
    fun i y c n s hi => ?_⟩
  obtain ⟨cin, rfl, hexec⟩ : ∃ cin : Bool, c = cin.toNat ∧
      exec i s = .next ((s.setArith (add8 s.a y cin)).advance n) := by
    obtain ⟨r, rfl, rfl, rfl, rfl⟩ | ⟨r, rfl, rfl, rfl, rfl⟩ | ⟨rfl, rfl, rfl⟩ |
      ⟨rfl, rfl, rfl⟩ := hi
    · exact ⟨false, rfl, rfl⟩
    · exact ⟨s.flags.cy, rfl, rfl⟩
    · exact ⟨false, rfl, rfl⟩
    · exact ⟨s.flags.cy, rfl, rfl⟩
  exact ⟨_, hexec, add8_res_toNat s.a y cin, add8_cy s.a y cin, add8_ac s.a y cin,
    arithFlags_resultFlags s.flags _, rfl⟩

/-- Settles O31: the four forms are one subtraction, with or without CY in. -/
theorem subtractionsSubtractAndBorrow : Obligations.SubtractionsSubtractAndBorrow := by
  unfold Obligations.SubtractionsSubtractAndBorrow
  refine ⟨fun r => ⟨decodesTo_of_plain (by cases r <;> rfl),
      decodesTo_of_plain (by cases r <;> rfl)⟩,
    fun d8 => ⟨decodesTo_of_imm8 (build := .sui) rfl d8, decodesTo_of_imm8 (build := .sbi) rfl d8⟩,
    fun i y c n s hi => ?_⟩
  obtain ⟨bin, rfl, hexec⟩ : ∃ bin : Bool, c = bin.toNat ∧
      exec i s = .next ((s.setArith (sub8 s.params.acSub s.a y bin)).advance n) := by
    obtain ⟨r, rfl, rfl, rfl, rfl⟩ | ⟨r, rfl, rfl, rfl, rfl⟩ | ⟨rfl, rfl, rfl⟩ |
      ⟨rfl, rfl, rfl⟩ := hi
    · exact ⟨false, rfl, rfl⟩
    · exact ⟨s.flags.cy, rfl, rfl⟩
    · exact ⟨false, rfl, rfl⟩
    · exact ⟨s.flags.cy, rfl, rfl⟩
  exact ⟨_, hexec, sub8_res_toNat s.params.acSub s.a y bin, sub8_cy s.params.acSub s.a y bin,
    fun hconv => hconv ▸ sub8_ac_noBorrow s.a y bin, fun hconv => hconv ▸ sub8_ac_borrow s.a y bin,
    arithFlags_resultFlags s.flags _, rfl⟩

/-! ### INR and DCR (R78, R79) -/

theorem WroteOperand.setFlags {r : Reg8} {v : Byte} {s t : State} (h : WroteOperand r v s t)
    (f : Flags) : WroteOperand r v s (t.setFlags f) := by
  obtain ⟨hreg, hmem, hframe⟩ := h
  refine ⟨fun q hq => ?_, fun x => ?_, hframe⟩
  · rw [State.readReg8_setFlags, hreg q hq]
  · rw [State.readByte_setFlags, hmem x]

/-- What INR and DCR leave: the operand, and PC where `npc` has it. -/
theorem State.setCount_wroteOperand (s : State) (r : Reg8) (out : AluOut) :
    WroteOperand r out.res s ((s.setCount r out).advance 1) ∧
      ((s.setCount r out).advance 1).pc = s.pc + 1 := by
  obtain ⟨-, hpc, -⟩ := s.writeReg8_frame r out.res
  exact ⟨((s.writeReg8_wroteOperand r out.res).setFlags _).advance 1, congrArg (· + 1) hpc⟩

theorem exec_inr (r : Reg8) (s : State) :
    exec (.inr r) s = .next ((s.setCount r (add8 (s.readReg8 r) 0x01 false)).advance 1) := rfl

theorem exec_dcr (r : Reg8) (s : State) : exec (.dcr r) s =
    .next ((s.setCount r (sub8 s.params.acSub (s.readReg8 r) 0x01 false)).advance 1) := rfl

/-- Settles O32: an addition of 1 into the operand, without its carry. -/
theorem inrAddsOneKeepingCarry : Obligations.InrAddsOneKeepingCarry := by
  unfold Obligations.InrAddsOneKeepingCarry
  intro r s
  obtain ⟨hwrote, hpc⟩ := s.setCount_wroteOperand r (add8 (s.readReg8 r) 0x01 false)
  refine ⟨decodesTo_of_plain (by cases r <;> rfl), _, _, exec_inr r s, hwrote,
    add8_res_toNat _ _ _, stepFlags_resultFlags s.flags _, (add8_ac _ _ _).trans ?ac, rfl, hpc⟩
  case ac =>
    have hone : (0x01 : Byte).toNat = 1 := rfl
    rw [decide_eq_decide, hone, Bool.toNat_false]
    omega

/-- Settles O33: a subtraction of 1 from the operand, without its borrow. -/
theorem dcrSubtractsOneKeepingCarry : Obligations.DcrSubtractsOneKeepingCarry := by
  unfold Obligations.DcrSubtractsOneKeepingCarry
  intro r s
  obtain ⟨hwrote, hpc⟩ := s.setCount_wroteOperand r (sub8 s.params.acSub (s.readReg8 r) 0x01 false)
  have hone : (0x01 : Byte).toNat = 1 := rfl
  refine ⟨decodesTo_of_plain (by cases r <;> rfl), _, _, exec_dcr r s, hwrote,
    sub8_res_toNat s.params.acSub (s.readReg8 r) 0x01 false, stepFlags_resultFlags s.flags _,
    fun hconv => ?noBorrow, fun hconv => ?borrow, rfl, hpc⟩
  case noBorrow =>
    rw [hconv]
    refine (sub8_ac_noBorrow _ _ _).trans ?_
    rw [decide_eq_decide, hone, Bool.toNat_false]
    omega
  case borrow =>
    rw [hconv]
    refine (sub8_ac_borrow _ _ _).trans ?_
    rw [decide_eq_decide, hone, Bool.toNat_false]
    omega

/-! ### INX, DCX, DAD (R80 to R82) -/

theorem exec_inx (rp : Rp) (s : State) :
    exec (.inx rp) s = .next ((s.writeRp rp (s.readRp rp + 1)).advance 1) := rfl

theorem exec_dcx (rp : Rp) (s : State) :
    exec (.dcx rp) s = .next ((s.writeRp rp (s.readRp rp - 1)).advance 1) := rfl

theorem toNat_word_succ (v : Word) : (v + 1).toNat = (v.toNat + 1) % 65536 := by
  bv_omega

theorem toNat_word_pred (v : Word) : ((v - 1).toNat + 1) % 65536 = v.toNat := by
  bv_omega

/-- The bytes of a pair counted up, put together again. -/
theorem toNat_bytes_succ (v : Word) :
    (hiByte (v + 1) ++ loByte (v + 1)).toNat = (v.toNat + 1) % 65536 := by
  rw [append_bytes, toNat_word_succ]

/-- The bytes of a pair counted down, put together again. -/
theorem toNat_bytes_pred (v : Word) :
    ((hiByte (v - 1) ++ loByte (v - 1)).toNat + 1) % 65536 = v.toNat := by
  rw [append_bytes, toNat_word_pred]

/-- Settles O34: the word counted up or down, split into the pair's bytes. -/
theorem inxDcxCountPairs : Obligations.InxDcxCountPairs := by
  unfold Obligations.InxDcxCountPairs
  refine ⟨⟨decodesTo_of_plain rfl, decodesTo_of_plain rfl, decodesTo_of_plain rfl,
    decodesTo_of_plain rfl, decodesTo_of_plain rfl, decodesTo_of_plain rfl, decodesTo_of_plain rfl,
    decodesTo_of_plain rfl⟩, fun s => ?_⟩
  exact ⟨⟨_, exec_inx .bc s, toNat_bytes_succ s.bc, rfl⟩,
    ⟨_, exec_inx .de s, toNat_bytes_succ s.de, rfl⟩,
    ⟨_, exec_inx .hl s, toNat_bytes_succ s.hl, rfl⟩,
    ⟨_, exec_inx .sp s, toNat_word_succ s.sp, rfl⟩,
    ⟨_, exec_dcx .bc s, toNat_bytes_pred s.bc, rfl⟩,
    ⟨_, exec_dcx .de s, toNat_bytes_pred s.de, rfl⟩,
    ⟨_, exec_dcx .hl s, toNat_bytes_pred s.hl, rfl⟩,
    ⟨_, exec_dcx .sp s, toNat_word_pred s.sp, rfl⟩⟩

theorem exec_dad (rp : Rp) (s : State) : exec (.dad rp) s =
    .next (((s.setHL (BitVec.ofNat 16 (s.hl.toNat + (s.readRp rp).toNat))).setFlags
      (carryFlag s.flags (decide (s.hl.toNat + (s.readRp rp).toNat > 65535)))).advance 1) := rfl

/-- A 16-bit sum and its carry are the exact sum. -/
theorem toNat_word_sum_exact (x y : Word) :
    (BitVec.ofNat 16 (x.toNat + y.toNat)).toNat +
      65536 * (decide (x.toNat + y.toNat > 65535)).toNat = x.toNat + y.toNat := by
  have hx := x.isLt
  have hy := y.isLt
  rw [BitVec.toNat_ofNat]
  by_cases h : x.toNat + y.toNat > 65535
  · rw [decide_eq_true h, Bool.toNat_true]
    omega
  · rw [decide_eq_false h, Bool.toNat_false]
    omega

/-- Settles O35: the exact sum, its low 16 bits split into H and L. -/
theorem dadAddsSixteenBits : Obligations.DadAddsSixteenBits := by
  unfold Obligations.DadAddsSixteenBits
  refine ⟨⟨decodesTo_of_plain rfl, decodesTo_of_plain rfl, decodesTo_of_plain rfl,
    decodesTo_of_plain rfl⟩, fun rp y s hpair => ?_⟩
  obtain rfl : s.readRp rp = y := by
    obtain ⟨rfl, rfl⟩ | ⟨rfl, rfl⟩ | ⟨rfl, rfl⟩ | ⟨rfl, rfl⟩ := hpair <;> rfl
  refine ⟨_, exec_dad rp s, ?sum, rfl⟩
  refine Eq.trans ?_ (toNat_word_sum_exact s.hl (s.readRp rp))
  exact congrArg (·.toNat + _) (append_bytes _)

/-! ### ANA, XRA, ORA, ANI, XRI, ORI, CMP, CPI (R87 to R94) -/

/-- Settles O39: the six operations write A and the logical flags. -/
theorem logicalOperations : Obligations.LogicalOperations := by
  unfold Obligations.LogicalOperations
  refine ⟨fun r => ⟨decodesTo_of_plain (by cases r <;> rfl),
      decodesTo_of_plain (by cases r <;> rfl),
      decodesTo_of_plain (by cases r <;> rfl)⟩,
    fun d8 => ⟨decodesTo_of_imm8 (build := .ani) rfl d8, decodesTo_of_imm8 (build := .xri) rfl d8,
      decodesTo_of_imm8 (build := .ori) rfl d8⟩, fun i v ac n s hi => ?_⟩
  have hexec : exec i s = .next ((s.setLogic v ac).advance n) := by
    obtain ⟨r, rfl, rfl, rfl, rfl⟩ | ⟨r, rfl, rfl, rfl, rfl⟩ | ⟨r, rfl, rfl, rfl, rfl⟩ |
      ⟨d8, rfl, rfl, rfl, rfl⟩ | ⟨d8, rfl, rfl, rfl, rfl⟩ | ⟨d8, rfl, rfl, rfl, rfl⟩ := hi <;> rfl
  exact ⟨_, hexec, rfl, logicFlags_resultFlags s.flags v ac, rfl, rfl, rfl⟩

/-- Settles O40: the flags of the difference, which is zero exactly where the bytes are equal. -/
theorem comparesSetFlagsOnly : Obligations.ComparesSetFlagsOnly := by
  unfold Obligations.ComparesSetFlagsOnly
  refine ⟨fun r => decodesTo_of_plain (by cases r <;> rfl),
    fun d8 => decodesTo_of_imm8 (build := .cpi) rfl d8, fun i y n s hi => ?_⟩
  have hexec : exec i s =
      .next ((s.setCompare (sub8 s.params.acSub s.a y false)).advance n) := by
    obtain ⟨r, rfl, rfl, rfl⟩ | ⟨rfl, rfl⟩ := hi <;> rfl
  have hres := sub8_res_eq_sub s.params.acSub s.a y
  refine ⟨_, hexec, ?zero, sub8_cy s.params.acSub s.a y false,
    hres ▸ arithFlags_resultFlags s.flags _,
    fun hconv => hconv ▸ sub8_ac_noBorrow s.a y false,
    fun hconv => hconv ▸ sub8_ac_borrow s.a y false, rfl⟩
  case zero =>
    show ((sub8 s.params.acSub s.a y false).res == 0x00) = decide (s.a = y)
    rw [hres, Bool.eq_iff_iff, beq_iff_eq, decide_eq_true_eq, BitVec.sub_eq_iff_eq_add]
    simp

end Sys2Proof.Machine

/-! # DAA (41_arithmetic.md R83 to R85) -/

namespace Sys2Proof.Machine

theorem exec_daa (s : State) : exec .daa s = .next { s with
    a := (daaFn s.params.daaTable s.a s.flags.ac s.flags.cy).1
    flags := (daaFn s.params.daaTable s.a s.flags.ac s.flags.cy).2
    pc := s.pc + 1 } := rfl

/-- A row answers for its own inputs and leaves the others to the rows after it. -/
theorem daaFn_cons (row : DaaRow) (rest : List DaaRow) (a : Byte) (ac cy : Bool) :
    daaFn (row :: rest) a ac cy =
      if row.aIn = a ∧ row.acIn = ac ∧ row.cyIn = cy then (row.aOut, row.flagsOut)
      else daaFn rest a ac cy := by
  by_cases h : row.aIn = a ∧ row.acIn = ac ∧ row.cyIn = cy
  · obtain ⟨ha, hac, hcy⟩ := h
    simp [daaFn, ha, hac, hcy]
  · have hmiss : (row.aIn == a && row.acIn == ac && row.cyIn == cy) = false := by
      simpa [and_assoc] using h
    rw [if_neg h]
    simp only [daaFn, List.find?_cons, hmiss]

/-- Settles O36: the update of A and the flags, and the search of the table. -/
theorem daaAppliesItsFunction : Obligations.DaaAppliesItsFunction := by
  unfold Obligations.DaaAppliesItsFunction
  exact ⟨decodesTo_of_plain rfl, exec_daa, daaFn_nil, daaFn_cons⟩

/-! ### The default DAA (R85) -/

/-- The new CY of the default DAA, which also says whether 0x60 is added (R85). -/
def daaCarry (a : Byte) (cy : Bool) : Bool := cy || decide (a.toNat > 0x99)

/-- What the default DAA adds to A (R85). -/
def daaCorrection (a : Byte) (ac cy : Bool) : Byte :=
  (if decide (a.toNat % 16 > 9) || ac then 0x06 else 0x00) +
    (if daaCarry a cy then 0x60 else 0x00)

/-- The high digit, with the low one at 9, says where the byte stands against 0x99. -/
theorem daaCarry_eq_digits (a : Byte) (cy : Bool) :
    (decide ((a >>> 4).toNat > 9) || cy ||
      (decide ((a >>> 4).toNat ≥ 9) && decide (a.toNat % 16 > 9))) = daaCarry a cy := by
  have hhigh : (a >>> 4).toNat = a.toNat / 16 := by
    rw [BitVec.toNat_ushiftRight, Nat.shiftRight_eq_div_pow]
  rw [daaCarry, hhigh]
  cases cy with
  | true => simp
  | false =>
    rw [Bool.or_false, Bool.false_or, ← Bool.decide_and, ← Bool.decide_or, decide_eq_decide]
    omega

/-- The default DAA is an addition with the flags of one, but for CY, whatever the flags were. -/
theorem daaStandard_eq (f : Flags) (a : Byte) (ac cy : Bool) :
    daaStandard a ac cy = ((add8 a (daaCorrection a ac cy) false).res,
      carryFlag (arithFlags f (add8 a (daaCorrection a ac cy) false)) (daaCarry a cy)) := by
  have hcy : (cy || daaCarry a cy) = daaCarry a cy := by rw [daaCarry, Bool.or_self_left]
  simp only [daaStandard, toNat_and_lowDigit, daaCarry_eq_digits, hcy]
  rfl

theorem daaCorrection_toNat (a : Byte) (ac cy : Bool) :
    (daaCorrection a ac cy).toNat = (if a.toNat % 16 > 9 ∨ ac = true then 6 else 0) +
      (if daaCarry a cy = true then 96 else 0) := by
  simp only [daaCorrection, Bool.or_eq_true, decide_eq_true_eq]
  split_ifs <;> rfl

/-- AC of the default DAA: 6 carries out of the low digit exactly where the digit is above 9. -/
theorem daaCorrection_ac (a : Byte) (ac cy : Bool) :
    (add8 a (daaCorrection a ac cy) false).ac = decide (a.toNat % 16 > 9) := by
  rw [add8_ac, daaCorrection_toNat, decide_eq_decide, Bool.toNat_false]
  split_ifs <;> omega

theorem daaCarry_eq_true_iff (a : Byte) (cy : Bool) :
    daaCarry a cy = true ↔ cy = true ∨ a.toNat > 0x99 := by
  simp [daaCarry]

/-- Settles O37: the correction as a number, and what its addition leaves. -/
theorem defaultDaaAdjusts : Obligations.DefaultDaaAdjusts := by
  unfold Obligations.DefaultDaaAdjusts
  intro s htable
  have hexec := exec_daa s
  rw [htable, daaFn_nil, daaStandard_eq s.flags] at hexec
  refine ⟨_, hexec, ?res, daaCarry_eq_true_iff _ _, daaCorrection_ac _ _ _,
    arithFlags_resultFlags s.flags _, rfl⟩
  refine (add8_res_toNat _ _ _).trans ?_
  rw [daaCorrection_toNat, Bool.toNat_false, Nat.add_zero, ← Nat.add_assoc]
  rfl

/-! ### DAA after an addition (R84) -/

theorem bcdByte_toNat {n : Nat} (h : n < 100) : (bcdByte n).toNat = n / 10 * 16 + n % 10 := by
  rw [bcdByte, BitVec.toNat_ofNat]
  omega

/-- Two packed-BCD bytes added: `h` and `l` are the sums of the high and of the low digits. -/
theorem bcd_carry_iff {h l : Nat} (hh : h < 19) (hl : l < 20) :
    h * 16 + l ≥ 256 ∨ (h * 16 + l) % 256 > 0x99 ↔ h * 10 + l ≥ 100 := by
  omega

/-- The low digit needs the 6 exactly where the low digits' sum is above 9. -/
theorem bcd_low_iff {h l : Nat} (hl : l < 20) :
    (h * 16 + l) % 256 % 16 > 9 ∨ l ≥ 16 ↔ l > 9 := by
  omega

/-- The two corrections turn the binary sum of the digits into the decimal one, mod 100: a table of
the digits' sums. -/
theorem bcd_adjust : ∀ h < 19, ∀ l < 20,
    ((h * 16 + l) % 256 + (if l > 9 then 6 else 0) + (if h * 10 + l ≥ 100 then 96 else 0)) % 256 =
      (h * 10 + l) % 100 / 10 * 16 + (h * 10 + l) % 100 % 10 := by
  decide

/-- Settles O38: the addition leaves the digits' sums and carries, which DAA turns decimal. -/
theorem daaMakesDecimalSums : Obligations.DaaMakesDecimalSums := by
  unfold Obligations.DaaMakesDecimalSums
  intro x y c i s hx hy hax htable hi
  obtain ⟨n, hform⟩ : ∃ n, (∃ r, i = .add r ∧ bcdByte y = s.readReg8 r ∧ c = 0 ∧ n = 1) ∨
      (∃ r, i = .adc r ∧ bcdByte y = s.readReg8 r ∧ c = s.flags.cy.toNat ∧ n = 1) ∨
      (i = .adi (bcdByte y) ∧ c = 0 ∧ n = 2) ∨
      (i = .aci (bcdByte y) ∧ c = s.flags.cy.toNat ∧ n = 2) := by
    obtain ⟨r, hir, hr, hc⟩ | ⟨r, hir, hr, hc⟩ | ⟨hid, hc⟩ | ⟨hid, hc⟩ := hi
    · exact ⟨1, .inl ⟨r, hir, hr.symm, hc, rfl⟩⟩
    · exact ⟨1, .inr (.inl ⟨r, hir, hr.symm, hc, rfl⟩)⟩
    · exact ⟨2, .inr (.inr (.inl ⟨hid, hc, rfl⟩))⟩
    · exact ⟨2, .inr (.inr (.inr ⟨hid, hc, rfl⟩))⟩
  have hcarryIn : c ≤ 1 := by
    have hcy := s.flags.cy.toNat_le
    obtain ⟨r, -, -, rfl, -⟩ | ⟨r, -, -, rfl, -⟩ | ⟨-, rfl, -⟩ | ⟨-, rfl, -⟩ := hform <;> omega
  obtain ⟨-, -, hadd⟩ := additionsAddAndCarry
  obtain ⟨t, hexec, ha, hcy, hac, -, ht⟩ := hadd i (bcdByte y) c n s hform
  obtain ⟨u, hdaa, hua, hucy, -, -, -⟩ := defaultDaaAdjusts t (by rw [ht]; exact htable)
  refine ⟨u, by simp only [execSeq, hexec, hdaa], ?_⟩
  obtain ⟨h, hh⟩ : ∃ h, h = x / 10 + y / 10 := ⟨_, rfl⟩
  obtain ⟨l, hl⟩ : ∃ l, l = x % 10 + y % 10 + c := ⟨_, rfl⟩
  have hsum : s.a.toNat + (bcdByte y).toNat + c = h * 16 + l := by
    rw [hax, bcdByte_toNat hx, bcdByte_toNat hy]
    omega
  have hlow : s.a.toNat % 16 + (bcdByte y).toNat % 16 + c = l := by
    rw [hax, bcdByte_toNat hx, bcdByte_toNat hy]
    omega
  have hdec : x + y + c = h * 10 + l := by omega
  have hh19 : h < 19 := by omega
  have hl20 : l < 20 := by omega
  rw [hsum] at ha hcy
  rw [hlow] at hac
  rw [hcy, ha, decide_eq_true_eq, bcd_carry_iff hh19 hl20] at hucy
  simp only [hucy, hac, ha, decide_eq_true_eq, bcd_low_iff hl20] at hua
  rw [hdec]
  refine ⟨BitVec.eq_of_toNat_eq ?_, by rw [Bool.eq_iff_iff, hucy, decide_eq_true_eq]⟩
  rw [hua, bcd_adjust h hh19 l hl20, bcdByte_toNat (Nat.mod_lt _ (by omega))]

end Sys2Proof.Machine
